-- ==== Sys2Proof/Word.lean ====
section
/-! DEFINITION. The machine's words: bytes and 16-bit words (00_scope.md R8). Cycle stamps are `Int`: unbounded, as
61_scheduler.md R411 lets a model hold them, and signed, because `divBase`, `busTime` and the deadlines frozen by a
stop may lie before zero (60_exceptions.md R360, 61_scheduler.md R410). -/

namespace Sys2Proof

/-- An 8-bit value: a register, a memory byte, an opcode (10_state.md R22). -/
abbrev Byte := BitVec 8

/-- A 16-bit value: an address, a register pair, `SP`, `PC` (10_state.md R23 to R25). -/
abbrev Word := BitVec 16

end Sys2Proof
end

