-- ==== Sys2Proof/Machine/Bytes.lean ====
section
/-! DEFINITION. Byte order, sign extension and bit-field helpers shared by the decoder and the machine. -/

namespace Sys2Proof

/-- `hi:lo`, the 16-bit value with high byte `hi` (00_scope.md R8). -/
def join (hi lo : Byte) : Word := hi ++ lo

/-- `w[15:8]`. -/
def hiByte (w : Word) : Byte := w.extractLsb' 8 8

/-- `w[7:0]`. -/
def loByte (w : Word) : Byte := w.extractLsb' 0 8

/-- `sext_16(e)`: the displacement of `JR`, `ADD SP,e8` and `LD HL,SP+e8` (30_encoding.md R150). -/
def sext16 (e : Byte) : Word := e.signExtend 16

/-- `0xFF00 + zext_16(v)`: the address of the high-page forms (30_encoding.md R150). -/
def highPage (v : Byte) : Word := 0xFF00#16 + v.zeroExtend 16

/-- The field `x = op[7:6]` (30_encoding.md R142). -/
def fieldX (op : Byte) : Nat := op.toNat / 64

/-- The field `y = op[5:3]` (30_encoding.md R142). -/
def fieldY (op : Byte) : Nat := op.toNat / 8 % 8

/-- The field `z = op[2:0]` (30_encoding.md R142). -/
def fieldZ (op : Byte) : Nat := op.toNat % 8

end Sys2Proof
end

