-- ==== Sys2Proof/Machine/Memory.lean ====
section
/-! DEFINITION. One storage array (ROM, VRAM, WRAM, ...) as a list of index and byte pairs in one canonical form:
indexes strictly rising, no entry equal to what an unlisted index reads as. -/

namespace Sys2Proof.Machine

/-- A storage array: its listed bytes. -/
abbrev Memory := List (Nat × Byte)

/-- What an unlisted index reads as. DESIGN CHOICE (log 4), unsafe: the spec leaves initial contents free
(70_reset_and_hazards.md R552); 95_test_vectors.md section 0 takes `0x00`. -/
def Memory.unlisted : Byte := 0x00#8

/-- The byte at index `i`. -/
def Memory.read : Memory → Nat → Byte
  | [], _ => Memory.unlisted
  | (k, v) :: m, i => if k = i then v else Memory.read m i

/-- `m` with the cell `(i, v)` put at its place in rising order. -/
def Memory.insertCell (i : Nat) (v : Byte) : Memory → Memory
  | [] => [(i, v)]
  | (k, w) :: m => if i < k then (i, v) :: (k, w) :: m else (k, w) :: Memory.insertCell i v m

/-- `m` with the byte `v` at index `i`: the old entry goes, and the new one is listed unless it is what an
unlisted index reads as. -/
def Memory.write (m : Memory) (i : Nat) (v : Byte) : Memory :=
  if v = Memory.unlisted then m.filter (fun c => c.1 ≠ i)
  else Memory.insertCell i v (m.filter (fun c => c.1 ≠ i))

/-- Every entry's index is below `m`'s first index. -/
def Memory.below (i : Nat) : Memory → Bool
  | [] => true
  | (k, _) :: _ => i < k

/-- The canonical form: indexes strictly rising, no entry equal to what an unlisted index reads as. -/
def Memory.wf : Memory → Bool
  | [] => true
  | (k, v) :: m => v != Memory.unlisted && Memory.below k m && Memory.wf m

/-- A list of cells in any order as a storage array; the first cell of an index counts. -/
def Memory.ofCells : List (Nat × Byte) → Memory
  | [] => []
  | (i, v) :: rest => (Memory.ofCells rest).write i v

/-- Listed bytes `vs` written from index `i` on, in rising order. -/
def Memory.writeAll (m : Memory) (i : Nat) : List Byte → Memory
  | [] => m
  | v :: vs => Memory.writeAll (m.write i v) (i + 1) vs

end Sys2Proof.Machine
end

