-- ==== Sys2Proof/Machine/Units.lean ====
section
/-! DEFINITION. The registers of each unit of the machine as plain data: CPU, I/O window, timer, open bus, scheduler,
mapper, clock chip, OAM-DMA engine (10_state.md). -/

namespace Sys2Proof.Machine

/-- The CPU engine's registers and control state (10_state.md sections 3 to 6). -/
structure Cpu where
  a : Byte
  f : Byte
  b : Byte
  c : Byte
  d : Byte
  e : Byte
  h : Byte
  l : Byte
  sp : Word
  pc : Word
  /-- Interrupt master enable (R27). -/
  ime : Bool
  /-- The earliest cycle at which an interrupt may be dispatched (R28). -/
  minIntTime : Int
  halted : Bool
  stopped : Bool
  /-- `cc` when the stop began (R30). -/
  stopStart : Int
  prefetched : Bool
  /-- The opcode byte `prefetched` refers to (R31). -/
  latch : Byte
  /-- KEY1 bit 7 (R32, R38). -/
  doubleSpeed : Bool
deriving DecidableEq, Repr

/-- The control registers of the I/O window (10_state.md section 7). -/
structure IoRegs where
  /-- `IF[4:0]` (R35). -/
  ifr : BitVec 5
  /-- `IE` (R36). -/
  ie : Byte
  /-- `DMA` (R37). -/
  dma : Byte
  /-- KEY1 bit 0 (R38). -/
  prepare : Bool
  vbk : BitVec 1
  svbk : BitVec 3
deriving DecidableEq, Repr

/-- The divider and timer (10_state.md R41, 60_exceptions.md R360). -/
structure Timer where
  divBase : Int
  tima : Byte
  tma : Byte
  tac : BitVec 3
  timaLast : Int
deriving DecidableEq, Repr

/-- The open-bus latch (10_state.md R58). -/
structure BusLatch where
  value : Byte
  time : Int
deriving DecidableEq, Repr

/-- The scheduler slots in index order (61_scheduler.md R400). -/
inductive Slot
  | unhalt
  | endRun
  | blit
  | serial
  | oamDma
  | hdma
  | tima
  | video
  | interrupts
deriving DecidableEq, Repr

/-- `deadline[0..8]`, `none` for `DISABLED` (10_state.md R60, 61_scheduler.md R401). -/
structure Deadlines where
  unhalt : Option Int
  endRun : Option Int
  blit : Option Int
  serial : Option Int
  oamDma : Option Int
  hdma : Option Int
  tima : Option Int
  video : Option Int
  interrupts : Option Int
deriving DecidableEq, Repr

/-- The mapper's registers (10_state.md R62), at the widest variant's width. -/
structure Mapper where
  ramEnable : Bool
  romBankReg : BitVec 9
  ramBankReg : BitVec 4
  bank2 : BitVec 2
  mode : Bool
  latchPrev : Byte
  /-- The special variants' mode register (62_mbc.md R470 to R474). -/
  modeReg : Byte
  /-- The banks a multicart controller shows in the two ROM windows (62_mbc.md R473). -/
  specialBank0 : Nat
  specialBankN : Nat
deriving DecidableEq, Repr

/-- One bank of layout A's five registers (63_rtc.md R490). `DH` stores three bits. -/
structure RtcRegs where
  s : BitVec 6
  m : BitVec 6
  h : BitVec 5
  dl : Byte
  /-- `DH[0]`: bit 8 of the day counter. -/
  day8 : Bool
  /-- `DH[6]`. -/
  halt : Bool
  /-- `DH[7]`: the day counter overflowed. -/
  carry : Bool
deriving DecidableEq, Repr

/-- Layout B's registers (10_state.md R64, 63_rtc.md R510). `seconds`, those of the current minute, and `halted` have no
name in the spec: R510 says that the counter advances once per 60 seconds, and only while unhalted. DESIGN CHOICE
(log 12), unsafe. -/
structure RtcB where
  minutes : BitVec 12
  days : BitVec 12
  seconds : BitVec 6
  halted : Bool
  latchedMinutes : BitVec 12
  latchedDays : BitVec 12
  tone : Byte
deriving DecidableEq, Repr

/-- The chip's own registers: what a sidecar file restores (63_rtc.md R509; log 11). -/
structure RtcContents where
  live : RtcRegs
  latched : RtcRegs
  /-- The sub-second counter, in half-cycle units (63_rtc.md R491). -/
  sub : Nat
  layoutB : RtcB
deriving DecidableEq, Repr

/-- The real-time-clock chip (10_state.md R64). -/
structure Rtc where
  live : RtcRegs
  latched : RtcRegs
  /-- The sub-second counter, in half-cycle units (63_rtc.md R491). -/
  sub : Nat
  last : Int
  baseTime : Int
  hostLast : Int
  divisorOffset : Int
  layoutB : RtcB
deriving DecidableEq, Repr

/-- The OAM-DMA engine's source selector (10_state.md R66). -/
inductive DmaSrc
  | rom
  | sram
  | vram
  | wram
  | invalid
  | off
deriving DecidableEq, Repr

/-- The OAM-DMA engine (10_state.md R66). -/
structure OamDma where
  src : DmaSrc
  pos : Byte
  startPos : Byte
  /-- The stamp of the last step, `none` when idle. -/
  last : Option Int
deriving DecidableEq, Repr

end Sys2Proof.Machine
end

