-- ==== Sys2Proof/Config.lean ====
section
/-! DEFINITION. What is fixed for one machine instance: the parameters of 00_scope.md R7, the record `RESET` among
them, the cartridge configuration `CART`, and the free values of a cartridge's handler. -/

namespace Sys2Proof.Machine

/-- The console model (00_scope.md R3). -/
inductive Model
  | dmg
  | cgb
deriving DecidableEq, Repr

/-- Where the RTC takes elapsed time from (00_scope.md R7, 63_rtc.md R497). -/
inductive RtcSync
  | cycle
  | wall
deriving DecidableEq, Repr

/-- The cartridge mapper variant (62_mbc.md R432, R470 to R474). -/
inductive Variant
  | plain
  | mbc1
  | mbc2
  | mbc3
  | mbc5
  | huc1
  | huc3
  | camera
  | mmm01
  | wisdomTree
deriving DecidableEq, Repr

/-- The cartridge configuration `CART` (00_scope.md R7). `rom` itself stands in State, as plain data. -/
structure Cart where
  variant : Variant
  /-- The MBC1 multicart wiring (62_mbc.md R443). -/
  multicart : Bool
  /-- The MBC5 rumble variants, whose RAM bank register has 3 bits (62_mbc.md R455). -/
  rumble : Bool
  /-- 16 KiB banks of the image, at least 2 (62_mbc.md R434). -/
  romBanks : Nat
  /-- Whole 8 KiB banks of RAM (62_mbc.md R434). -/
  ramBanks : Nat
  /-- Bytes of RAM: `ramBanks * 8192`, or the 2 KiB case (62_mbc.md R434, R439). -/
  ramBytes : Nat
  hasRtc : Bool
  hasBattery : Bool
  /-- HuC1 and HuC3: whether a ROM bank register of 0 selects bank 1; 62_mbc.md R470 does not settle it (log 14). -/
  zeroAdjust : Bool
  /-- Whether a `CART.special` handler is supplied (62_mbc.md section 5, U12). -/
  handler : Bool
deriving DecidableEq, Repr

/-- The cartridge of State.reset. DESIGN CHOICE (log 3), unsafe: type `0x00`, two banks, no RAM, as in
95_test_vectors.md section 0. -/
def Cart.plain32K : Cart where
  variant := .plain
  multicart := false
  rumble := false
  romBanks := 2
  ramBanks := 0
  ramBytes := 0
  hasRtc := false
  hasBattery := false
  zeroAdjust := false
  handler := false

/-- `RTC_DIVISOR`: `cc` units per RTC second at normal speed (00_scope.md R7, 63_rtc.md R491). -/
def rtcDivisor : Int := 4194304

/-- The record `RESET` (70_reset_and_hazards.md R551): an argument of the model. What the rules themselves fix is not
in it: every slot DISABLED and the engine idle (R550, 64_oamdma.md R521), `timaLast` and `rtcLast` equal to `cc`
(10_state.md R41, R64), the open bus decayed. -/
structure ResetRecord where
  /-- `RESET.cc` (10_state.md R21, U27). -/
  cc : Int
  cpu : Cpu
  io : IoRegs
  tima : Byte
  tma : Byte
  tac : BitVec 3
  /-- `RESET.divCounter`: the value of `Sys(cc)` (10_state.md R41, U3). -/
  divCounter : Word
  busValue : Byte
  /-- The mapper's registers (62_mbc.md R480). -/
  mapper : Mapper
  /-- The clock chip's registers where the host restores none (63_rtc.md R509, U16). -/
  rtc : RtcContents
deriving DecidableEq, Repr

/-- The registers the boot program leaves (70_reset_and_hazards.md R551). -/
def Cpu.suggested : Model → Cpu
  | .dmg =>
    { a := 0x01, f := 0xB0, b := 0x00, c := 0x13, d := 0x00, e := 0xD8, h := 0x01, l := 0x4D, sp := 0xFFFE,
      pc := 0x0100, ime := false, minIntTime := 0, halted := false, stopped := false, stopStart := 0,
      prefetched := false, latch := 0x00, doubleSpeed := false }
  | .cgb =>
    { a := 0x11, f := 0x80, b := 0x00, c := 0x00, d := 0xFF, e := 0x56, h := 0x00, l := 0x0D, sp := 0xFFFE,
      pc := 0x0100, ime := false, minIntTime := 0, halted := false, stopped := false, stopStart := 0,
      prefetched := false, latch := 0x00, doubleSpeed := false }

/-- The control registers after reset (70_reset_and_hazards.md R551). -/
def IoRegs.suggested (model : Model) : IoRegs where
  ifr := 0x01
  ie := 0x00
  dma := match model with
    | .dmg => 0xFF
    | .cgb => 0x00
  prepare := false
  vbk := 0
  svbk := 0

/-- The mapper's reset state (62_mbc.md R480). -/
def Mapper.suggested : Mapper where
  ramEnable := false
  romBankReg := 1
  ramBankReg := 0
  bank2 := 0
  mode := false
  latchPrev := 0xFF
  modeReg := 0
  specialBank0 := 0
  specialBankN := 1

/-- All of layout A's registers 0 (63_rtc.md R509). -/
def RtcRegs.zero : RtcRegs where
  s := 0
  m := 0
  h := 0
  dl := 0
  day8 := false
  halt := false
  carry := false

/-- A chip with nothing restored (63_rtc.md R509). -/
def RtcContents.zero : RtcContents where
  live := RtcRegs.zero
  latched := RtcRegs.zero
  sub := 0
  layoutB :=
    { minutes := 0, days := 0, seconds := 0, halted := false, latchedMinutes := 0, latchedDays := 0, tone := 0 }

/-- The value the spec suggests for `RESET` (70_reset_and_hazards.md R551). `divCounter` is an argument: `0xABCC` on
DMG, free on CGB (U3). -/
def ResetRecord.suggested (model : Model) (divCounter : Word) : ResetRecord where
  cc := 0
  cpu := Cpu.suggested model
  io := IoRegs.suggested model
  tima := 0
  tma := 0
  tac := 0
  divCounter := divCounter
  busValue := 0xFF
  mapper := Mapper.suggested
  rtc := RtcContents.zero

/-- The parameters of 00_scope.md R7 that the spec leaves open or to the instance. -/
structure Params where
  model : Model
  /-- `HALT_WAKE_DELAY` (60_exceptions.md R348), open. -/
  haltWakeDelay : Nat
  /-- `PULLUP_DELAY` (20_memory.md R94), open. -/
  pullupDelay : Nat
  /-- `RAMG_MASK` (62_mbc.md R440). -/
  ramgMask : Byte
  rtcSync : RtcSync
  /-- `RESET` (70_reset_and_hazards.md R551). -/
  reset : ResetRecord
deriving DecidableEq, Repr

/-- The parameters of State.reset: DMG and the values 00_scope.md R7 and 70_reset_and_hazards.md R551 suggest. DESIGN
CHOICE (log 1), unsafe. -/
def Params.suggested : Params where
  model := .dmg
  haltWakeDelay := 4
  pullupDelay := 8
  ramgMask := 0x0F#8
  rtcSync := .cycle
  reset := ResetRecord.suggested .dmg 0xABCC

/-- FREE VALUE (log 14): the byte a special cartridge's handler answers to the CPU once its list of answers is used up,
by the number of interactions so far. The spec leaves the handler open (62_mbc.md section 5). -/
opaque Config.freeSpecialByte : Nat → Byte

/-- FREE VALUE (log 14): the byte it shows the OAM-DMA engine then, by the stamp of the engine's step. -/
opaque Config.freeSpecialDmaByte : Int → Byte

end Sys2Proof.Machine
end

