-- ==== Sys2Proof/Machine/State.lean ====
section
/-! DEFINITION. The machine's state as plain data, its reset, and the reasons a step can stop.
INVENTORY.md's State section lists every field with its rule and its reset value. -/

namespace Sys2Proof.Machine

/-- No instruction and no access faults: 60_exceptions.md R340 ("the loop itself cannot fail"), 20_memory.md R118,
93_implementation_defined.md section A ("No case is treated as `fault`"). So no one raises a fault: the type is empty. -/
inductive Fault
deriving DecidableEq, Repr

/-- The reasons for which the model runs nothing. -/
inductive Refusal
  /-- Raised by an arm of `exec` whose instruction has no meaning yet. Safe. -/
  | notModelled (mnemonic : String)
  /-- Raised by `step`: `RunFor` on an unloaded instance (62_mbc.md R431, U14, D51). Safe. -/
  | unloaded
  /-- Raised by `step`: a special cartridge with no `CART.special` handler (62_mbc.md section 5, U12, D35). Safe. -/
  | noSpecialHandler
  /-- Raised by `step` where the bytes fetched are no whole instruction; the fetch always supplies a whole one
  (30_encoding.md R157), so no state reaches it. Safe. -/
  | undecodable
deriving DecidableEq, Repr

/-- The storage arrays (10_state.md section 8). -/
inductive Store
  | rom
  | sram
  | vram
  | wram
  | oam
  | oamx
  | hram
deriving DecidableEq, Repr

/-- The contents of the storage arrays. -/
structure Mems where
  rom : Memory
  sram : Memory
  vram : Memory
  wram : Memory
  oam : Memory
  oamx : Memory
  hram : Memory
deriving DecidableEq, Repr

/-- The slots external devices own (20_memory.md R112). -/
inductive ExtSlot
  | blit
  | serial
  | hdma
  | video
deriving DecidableEq, Repr

/-- What an external handler answers and does (20_memory.md R112): the byte it returns, the `IF` bits it requests,
the deadlines it sets on its own slots, and (for HDMA) the VRAM bytes it writes. -/
structure ExtAnswer where
  value : Byte
  irq : BitVec 5
  sets : List (ExtSlot × Option Int)
  vram : List (Nat × Byte)
deriving DecidableEq, Repr

/-- What the `CART.special` handler answers and does (62_mbc.md section 5): the byte it returns, the RAM bytes it
writes (a captured image, R472), at a write of its registers the ROM banks it selects (R473), and its layout-B registers
(63_rtc.md R510). -/
structure SpecialAnswer where
  value : Byte
  sram : List (Nat × Byte)
  bank0 : Option Nat
  bankN : Option Nat
  layoutB : Option RtcB
deriving DecidableEq, Repr

/-- Why a cartridge load failed (62_mbc.md R431). -/
inductive LoadFailure
  | unsupportedMapper
  | invalidHeader
  | ioFailure
deriving DecidableEq, Repr

/-- A ROM image as the host gives it: its length, and its bytes that are not 0. -/
structure RomFile where
  size : Nat
  bytes : List (Nat × Byte)
deriving DecidableEq, Repr

/-- What a cartridge load is given (62_mbc.md R431): the image, `none` where it could not be read; the battery file; the
sidecar file of the clock; and what the loader's heuristics found (R443, R474; log 13, log 14). -/
structure LoadRequest where
  file : Option RomFile
  battery : List (Nat × Byte)
  sidecar : Option RtcContents
  multicart : Bool
  wisdomTree : Bool
  zeroAdjust : Bool
  handler : Bool
deriving DecidableEq, Repr

/-- One interaction with the outside, as the outside sees it, with its cycle stamp. -/
inductive ExtEvent
  | poll (buttons : Byte) (at_ : Int)
  | ioRead (a : Word) (at_ : Int)
  | ioWrite (a : Word) (v : Byte) (at_ : Int)
  | fire (slot : ExtSlot) (at_ : Int)
  | resume (frozen : Int) (at_ : Int)
  | rebased (delta : Int)
  | runReturned (cyclesRun : Int)
  | resetDone (at_ : Int)
  /-- The result of a cartridge load, `none` for success (62_mbc.md R431). -/
  | loaded (failure : Option LoadFailure)
  | cartRegister (a : Word) (v : Byte) (at_ : Int)
  | cartRead (a : Word) (at_ : Int)
  | cartWrite (a : Word) (v : Byte) (at_ : Int)
deriving DecidableEq, Repr

/-- The host's calls (00_scope.md R14). -/
inductive HostCall
  /-- `RunFor(n)` (60_exceptions.md R341). -/
  | runFor (n : Nat)
  /-- `Rtc.setBaseTime` (63_rtc.md R507). -/
  | setBaseTime (ts : Int)
  /-- The divisor offset (63_rtc.md R508). -/
  | setDivisorOffset (offset : Int)
  /-- A reset request, with the clock registers of the sidecar file if the host restores them (R550, R509). -/
  | reset (sidecar : Option RtcContents)
  /-- A cartridge load (62_mbc.md R431). -/
  | load (request : LoadRequest)
deriving DecidableEq, Repr

/-- The outside world: the host answers still to come, the interactions so far (newest first), and the host calls
still to be made. Every field is the MODEL's own (log 5, log 8). An empty answer list means no device. -/
structure External where
  answers : List ExtAnswer
  special : List SpecialAnswer
  /-- Answers of `VramAccessible` (20_memory.md R117). -/
  vramOk : List Bool
  /-- Answers of `OamAccessible` (20_memory.md R117). -/
  oamOk : List Bool
  /-- Answers of `PollInput()`: a mask of pressed buttons (20_memory.md R113). -/
  polls : List Byte
  /-- Answers of `HostTime()`, in seconds (63_rtc.md R497). -/
  times : List Int
  log : List ExtEvent
  calls : List HostCall
  /-- `cc` when the run on began, from which `RunFor` computes what it returns (60_exceptions.md R341). -/
  runStart : Int
deriving DecidableEq, Repr

/-- The whole machine. -/
structure State where
  /-- The cycle counter (10_state.md R21). -/
  cc : Int
  cpu : Cpu
  io : IoRegs
  timer : Timer
  bus : BusLatch
  sched : Deadlines
  mapper : Mapper
  rtc : Rtc
  dma : OamDma
  mem : Mems
  /-- The cartridge, `none` while unloaded (62_mbc.md R431). -/
  cart : Option Cart
  params : Params
  ext : External
deriving DecidableEq, Repr

/-- Every slot `DISABLED` (70_reset_and_hazards.md R550, R551). -/
def Deadlines.disabled : Deadlines where
  unhalt := none
  endRun := none
  blit := none
  serial := none
  oamDma := none
  hdma := none
  tima := none
  video := none
  interrupts := none

/-- The mapper after reset (62_mbc.md R480); the multicart controller shows the last 32 KiB (R473). -/
def Mapper.atReset (m : Mapper) (cart : Option Cart) : Mapper :=
  match cart with
  | some c =>
    if c.variant = .mmm01 then { m with specialBank0 := c.romBanks - 2, specialBankN := c.romBanks - 1 } else m
  | none => m

/-- The RTC chip after reset (10_state.md R64, 63_rtc.md R509): its registers restored or those of `RESET`, `sub` within
a second (R491), the divisor offset 0, `rtcLast` at `cc`, `baseTime` at the host's time. R64 gives `hostLast` no reset
value: it too is the host's time. DESIGN CHOICE (log 11), unsafe. -/
def Rtc.atReset (regs : RtcContents) (cc hostTime : Int) : Rtc where
  live := regs.live
  latched := regs.latched
  sub := regs.sub % (2 * rtcDivisor).toNat
  last := cc
  baseTime := hostTime
  hostLast := hostTime
  divisorOffset := 0
  layoutB := regs.layoutB

/-- The idle engine (64_oamdma.md R521). -/
def OamDma.idle : OamDma where
  src := .off
  pos := 0xFE
  startPos := 0
  last := none

/-- The machine after steps (1), (2) and (4) of a reset and with every slot `DISABLED` (70_reset_and_hazards.md R550), from
its parameters, its cartridge, its memories, its clock registers, the host's time and the outside world. The open bus is
decayed (log 9). -/
def State.atReset (p : Params) (cart : Option Cart) (mem : Mems) (regs : RtcContents) (hostTime : Int)
    (ext : External) : State where
  cc := p.reset.cc
  cpu := p.reset.cpu
  io := p.reset.io
  timer :=
    { divBase := p.reset.cc - p.reset.divCounter.toNat, tima := p.reset.tima, tma := p.reset.tma, tac := p.reset.tac,
      timaLast := p.reset.cc }
  bus := { value := p.reset.busValue, time := p.reset.cc - p.pullupDelay }
  sched := Deadlines.disabled
  mapper := p.reset.mapper.atReset cart
  rtc := Rtc.atReset regs p.reset.cc hostTime
  dma := OamDma.idle
  mem := mem
  cart := cart
  params := p
  ext := ext

/-- Nothing listed in any array. DESIGN CHOICE (log 4), unsafe. -/
def Mems.empty : Mems where
  rom := []
  sram := []
  vram := []
  wram := []
  oam := []
  oamx := []
  hram := []

/-- No device, no button, no call. DESIGN CHOICE (log 5), unsafe. -/
def External.none : External where
  answers := []
  special := []
  vramOk := []
  oamOk := []
  polls := []
  times := []
  log := []
  calls := []
  runStart := 0

/-- The machine right after reset, with the suggested parameters and the default cartridge (log 1, log 3). No run is on:
`TimaReschedule()` and `IntRecompute()` leave their slots disabled here (R550). -/
def State.reset : State :=
  State.atReset Params.suggested (some Cart.plain32K) Mems.empty RtcContents.zero 0 External.none

end Sys2Proof.Machine
end

