-- ==== Sys2Proof/Syntax.lean ====
section
/-! DEFINITION. The instructions: one constructor per row of spec/opcode_table.json (30_encoding.md R161). -/

namespace Sys2Proof

/-- The seven general registers (10_state.md R22). -/
inductive Reg8
  | b
  | c
  | d
  | e
  | h
  | l
  | a
deriving DecidableEq, Repr

/-- The operand `r[z]` of a prefixed instruction: a register, or the memory byte at `HL` (30_encoding.md R144). -/
inductive Operand
  | reg (r : Reg8)
  | indHL
deriving DecidableEq, Repr

/-- The instructions: those with operands first, then those without, each in the order of spec/opcode_table.json.
`Imm` is the operand `d8`, `e8` or `d16`; `Ind` the memory byte at an address. -/
inductive Instr
  | ldBCImm (v : Word)
  | ldBImm (v : Byte)
  | ldIndA16SP (a : Word)
  | ldCImm (v : Byte)
  | ldDEImm (v : Word)
  | ldDImm (v : Byte)
  | jr (e : Byte)
  | ldEImm (v : Byte)
  | jrNZ (e : Byte)
  | ldHLImm (v : Word)
  | ldHImm (v : Byte)
  | jrZ (e : Byte)
  | ldLImm (v : Byte)
  | jrNC (e : Byte)
  | ldSPImm (v : Word)
  | ldIndHLImm (v : Byte)
  | jrC (e : Byte)
  | ldAImm (v : Byte)
  | jpNZ (a : Word)
  | jp (a : Word)
  | callNZ (a : Word)
  | addAImm (v : Byte)
  | jpZ (a : Word)
  | callZ (a : Word)
  | call (a : Word)
  | adcAImm (v : Byte)
  | jpNC (a : Word)
  | callNC (a : Word)
  | subImm (v : Byte)
  | jpC (a : Word)
  | callC (a : Word)
  | sbcAImm (v : Byte)
  | ldhIndA8A (v : Byte)
  | andImm (v : Byte)
  | addSPImm (e : Byte)
  | ldIndA16A (a : Word)
  | xorImm (v : Byte)
  | ldhAIndA8 (v : Byte)
  | orImm (v : Byte)
  | ldHLSPImm (e : Byte)
  | ldAIndA16 (a : Word)
  | cpImm (v : Byte)
  | rlc (r : Operand)
  | rrc (r : Operand)
  | rl (r : Operand)
  | rr (r : Operand)
  | sla (r : Operand)
  | sra (r : Operand)
  | swap (r : Operand)
  | srl (r : Operand)
  | bit0 (r : Operand)
  | bit1 (r : Operand)
  | bit2 (r : Operand)
  | bit3 (r : Operand)
  | bit4 (r : Operand)
  | bit5 (r : Operand)
  | bit6 (r : Operand)
  | bit7 (r : Operand)
  | res0 (r : Operand)
  | res1 (r : Operand)
  | res2 (r : Operand)
  | res3 (r : Operand)
  | res4 (r : Operand)
  | res5 (r : Operand)
  | res6 (r : Operand)
  | res7 (r : Operand)
  | set0 (r : Operand)
  | set1 (r : Operand)
  | set2 (r : Operand)
  | set3 (r : Operand)
  | set4 (r : Operand)
  | set5 (r : Operand)
  | set6 (r : Operand)
  | set7 (r : Operand)
  | nop
  | ldIndBCA
  | incBC
  | incB
  | decB
  | rlca
  | addHLBC
  | ldAIndBC
  | decBC
  | incC
  | decC
  | rrca
  | stop
  | ldIndDEA
  | incDE
  | incD
  | decD
  | rla
  | addHLDE
  | ldAIndDE
  | decDE
  | incE
  | decE
  | rra
  | ldIndHLIncA
  | incHL
  | incH
  | decH
  | daa
  | addHLHL
  | ldAIndHLInc
  | decHL
  | incL
  | decL
  | cpl
  | ldIndHLDecA
  | incSP
  | incIndHL
  | decIndHL
  | scf
  | addHLSP
  | ldAIndHLDec
  | decSP
  | incA
  | decA
  | ccf
  | ldBB
  | ldBC
  | ldBD
  | ldBE
  | ldBH
  | ldBL
  | ldBIndHL
  | ldBA
  | ldCB
  | ldCC
  | ldCD
  | ldCE
  | ldCH
  | ldCL
  | ldCIndHL
  | ldCA
  | ldDB
  | ldDC
  | ldDD
  | ldDE
  | ldDH
  | ldDL
  | ldDIndHL
  | ldDA
  | ldEB
  | ldEC
  | ldED
  | ldEE
  | ldEH
  | ldEL
  | ldEIndHL
  | ldEA
  | ldHB
  | ldHC
  | ldHD
  | ldHE
  | ldHH
  | ldHL
  | ldHIndHL
  | ldHA
  | ldLB
  | ldLC
  | ldLD
  | ldLE
  | ldLH
  | ldLL
  | ldLIndHL
  | ldLA
  | ldIndHLB
  | ldIndHLC
  | ldIndHLD
  | ldIndHLE
  | ldIndHLH
  | ldIndHLL
  | halt
  | ldIndHLA
  | ldAB
  | ldAC
  | ldAD
  | ldAE
  | ldAH
  | ldAL
  | ldAIndHL
  | ldAA
  | addAB
  | addAC
  | addAD
  | addAE
  | addAH
  | addAL
  | addAIndHL
  | addAA
  | adcAB
  | adcAC
  | adcAD
  | adcAE
  | adcAH
  | adcAL
  | adcAIndHL
  | adcAA
  | subB
  | subC
  | subD
  | subE
  | subH
  | subL
  | subIndHL
  | subA
  | sbcAB
  | sbcAC
  | sbcAD
  | sbcAE
  | sbcAH
  | sbcAL
  | sbcAIndHL
  | sbcAA
  | andB
  | andC
  | andD
  | andE
  | andH
  | andL
  | andIndHL
  | andA
  | xorB
  | xorC
  | xorD
  | xorE
  | xorH
  | xorL
  | xorIndHL
  | xorA
  | orB
  | orC
  | orD
  | orE
  | orH
  | orL
  | orIndHL
  | orA
  | cpB
  | cpC
  | cpD
  | cpE
  | cpH
  | cpL
  | cpIndHL
  | cpA
  | retNZ
  | popBC
  | pushBC
  | rst00
  | retZ
  | ret
  | prefixCb
  | rst08
  | retNC
  | popDE
  | undefD3
  | pushDE
  | rst10
  | retC
  | reti
  | undefDB
  | undefDD
  | rst18
  | popHL
  | ldhIndCA
  | undefE3
  | undefE4
  | pushHL
  | rst20
  | jpHL
  | undefEB
  | undefEC
  | undefED
  | rst28
  | popAF
  | ldhAIndC
  | di
  | undefF4
  | pushAF
  | rst30
  | ldSPHL
  | ei
  | undefFC
  | undefFD
  | rst38
deriving DecidableEq, Repr

end Sys2Proof
end

