-- ==== Sys2Proof/Machine/Access.lean ====
section
/-! DEFINITION. Reading and writing registers, flags and storage bytes: each piece of state has one home and is
reached through these accessors only. -/

namespace Sys2Proof.Machine

/-- The register pairs of the fields `rp` and `rp2` (30_encoding.md R145, R146). -/
inductive Reg16
  | bc
  | de
  | hl
  | sp
  | af
deriving DecidableEq, Repr

/-- `MODEL = CGB` (00_scope.md R3). -/
def State.cgb (s : State) : Bool := s.params.model = .cgb

/-- The value of an 8-bit register (10_state.md R22). -/
def State.reg8 (r : Reg8) (s : State) : Byte :=
  match r with
  | .b => s.cpu.b
  | .c => s.cpu.c
  | .d => s.cpu.d
  | .e => s.cpu.e
  | .h => s.cpu.h
  | .l => s.cpu.l
  | .a => s.cpu.a

/-- Write an 8-bit register (10_state.md R22). -/
def State.setReg8 (r : Reg8) (v : Byte) (s : State) : State :=
  match r with
  | .b => { s with cpu := { s.cpu with b := v } }
  | .c => { s with cpu := { s.cpu with c := v } }
  | .d => { s with cpu := { s.cpu with d := v } }
  | .e => { s with cpu := { s.cpu with e := v } }
  | .h => { s with cpu := { s.cpu with h := v } }
  | .l => { s with cpu := { s.cpu with l := v } }
  | .a => { s with cpu := { s.cpu with a := v } }

/-- `F` with the four flags given and bits 3:0 zero (10_state.md R26). -/
def packF (z n h c : Bool) : Byte :=
  (if z then 0x80#8 else 0x00#8) ||| (if n then 0x40#8 else 0x00#8) |||
    (if h then 0x20#8 else 0x00#8) ||| (if c then 0x10#8 else 0x00#8)

/-- `F.Z = F[7]` (00_scope.md R9). -/
def State.flagZ (s : State) : Bool := s.cpu.f.getLsbD 7

/-- `F.N = F[6]`. -/
def State.flagN (s : State) : Bool := s.cpu.f.getLsbD 6

/-- `F.H = F[5]`. -/
def State.flagH (s : State) : Bool := s.cpu.f.getLsbD 5

/-- `F.C = F[4]`. -/
def State.flagC (s : State) : Bool := s.cpu.f.getLsbD 4

/-- Write `F`; writes to bits 3:0 are discarded (10_state.md R26). -/
def State.setF (v : Byte) (s : State) : State := { s with cpu := { s.cpu with f := v &&& 0xF0#8 } }

/-- Write the four flags. -/
def State.setFlags (z n h c : Bool) (s : State) : State := s.setF (packF z n h c)

/-- Write `PC` (10_state.md R25). -/
def State.setPc (v : Word) (s : State) : State := { s with cpu := { s.cpu with pc := v } }

/-- Write `SP` (10_state.md R24). -/
def State.setSp (v : Word) (s : State) : State := { s with cpu := { s.cpu with sp := v } }

/-- Write `ime` (10_state.md R27). -/
def State.setIme (v : Bool) (s : State) : State := { s with cpu := { s.cpu with ime := v } }

/-- Advance the cycle counter (10_state.md R21). -/
def State.addCc (n : Int) (s : State) : State := { s with cc := s.cc + n }

/-- The 16-bit view of a pair: the first-named register is the high byte (10_state.md R23). -/
def State.reg16 (r : Reg16) (s : State) : Word :=
  match r with
  | .bc => join s.cpu.b s.cpu.c
  | .de => join s.cpu.d s.cpu.e
  | .hl => join s.cpu.h s.cpu.l
  | .sp => s.cpu.sp
  | .af => join s.cpu.a s.cpu.f

/-- Write a pair; for `AF` bits 3:0 of the low byte are discarded (10_state.md R23, R26). -/
def State.setReg16 (r : Reg16) (v : Word) (s : State) : State :=
  match r with
  | .bc => { s with cpu := { s.cpu with b := hiByte v, c := loByte v } }
  | .de => { s with cpu := { s.cpu with d := hiByte v, e := loByte v } }
  | .hl => { s with cpu := { s.cpu with h := hiByte v, l := loByte v } }
  | .sp => { s with cpu := { s.cpu with sp := v } }
  | .af => { s with cpu := { s.cpu with a := hiByte v, f := loByte v &&& 0xF0#8 } }

/-- A storage array. -/
def Mems.get (st : Store) (m : Mems) : Memory :=
  match st with
  | .rom => m.rom
  | .sram => m.sram
  | .vram => m.vram
  | .wram => m.wram
  | .oam => m.oam
  | .oamx => m.oamx
  | .hram => m.hram

/-- Replace a storage array. -/
def Mems.set (st : Store) (v : Memory) (m : Mems) : Mems :=
  match st with
  | .rom => { m with rom := v }
  | .sram => { m with sram := v }
  | .vram => { m with vram := v }
  | .wram => { m with wram := v }
  | .oam => { m with oam := v }
  | .oamx => { m with oamx := v }
  | .hram => { m with hram := v }

/-- The stored byte at index `i` of an array. -/
def State.byte (st : Store) (i : Nat) (s : State) : Byte := (s.mem.get st).read i

/-- Store a byte at index `i` of an array. -/
def State.setByte (st : Store) (i : Nat) (v : Byte) (s : State) : State :=
  { s with mem := s.mem.set st ((s.mem.get st).write i v) }

/-- The cartridge's configuration; an unloaded instance is never run, and reads as the plain one. -/
def State.cartridge (s : State) : Cart := s.cart.getD Cart.plain32K

end Sys2Proof.Machine
end

