-- ==== Sys2Proof/Machine/Flags.lean ====
section
/-! DEFINITION. Results and flags of the arithmetic, logic, rotate, shift and bit operations (42_alu8.md,
43_alu16.md, 44_rotate_shift_bit.md). -/

namespace Sys2Proof.Machine

/-- The carry out of bit 3 of `a + b + c` (42_alu8.md R221, R222, R237). -/
def halfAdd (a b : Byte) (c : Bool) : Bool := 0xF < a.toNat % 16 + b.toNat % 16 + c.toNat

/-- The carry out of bit 7 of `a + b + c` (42_alu8.md R221, R222, R237). -/
def carryAdd (a b : Byte) (c : Bool) : Bool := 0xFF < a.toNat + b.toNat + c.toNat

/-- The borrow into bit 3 of `a − b − c` (42_alu8.md R223, R224, R237). -/
def halfSub (a b : Byte) (c : Bool) : Bool := a.toNat % 16 < b.toNat % 16 + c.toNat

/-- The borrow of `a − b − c`, on unbounded integers (42_alu8.md R223, R224, R237). -/
def carrySub (a b : Byte) (c : Bool) : Bool := a.toNat < b.toNat + c.toNat

/-- A carry as a byte. -/
def carryByte (c : Bool) : Byte := if c then 0x01#8 else 0x00#8

/-- `A <- A + v + c` with its flags `Z 0 H C` (42_alu8.md R221, R222). -/
def State.addA (v : Byte) (c : Bool) (s : State) : State :=
  let a := s.cpu.a
  let r := a + v + carryByte c
  (s.setReg8 .a r).setFlags (r = 0) false (halfAdd a v c) (carryAdd a v c)

/-- The flags `Z 1 H C` of `A − v − c` (42_alu8.md R223, R224, R228). -/
def State.compareA (v : Byte) (c : Bool) (s : State) : State :=
  let a := s.cpu.a
  s.setFlags (a - v - carryByte c = 0) true (halfSub a v c) (carrySub a v c)

/-- `A <- A − v − c` with its flags (42_alu8.md R223, R224). -/
def State.subA (v : Byte) (c : Bool) (s : State) : State :=
  (s.compareA v c).setReg8 .a (s.cpu.a - v - carryByte c)

/-- A logic result in `A` with flags `Z 0 h 0` (42_alu8.md R225 to R227). -/
def State.logicA (r : Byte) (h : Bool) (s : State) : State := (s.setReg8 .a r).setFlags (r = 0) false h false

/-- The flags `Z 0 H -` of an increment of `m` (42_alu8.md R229, R230). -/
def State.incFlags (m : Byte) (s : State) : State :=
  s.setFlags (m + 1 = 0) false (m.toNat % 16 = 0xF) s.flagC

/-- The flags `Z 1 H -` of a decrement of `m` (42_alu8.md R231, R232). -/
def State.decFlags (m : Byte) (s : State) : State :=
  s.setFlags (m - 1 = 0) true (m.toNat % 16 = 0x0) s.flagC

/-- The adjustment `DAA` makes after an addition (42_alu8.md R233). -/
def daaAddAdjust (a : Byte) (h c : Bool) : Byte :=
  (if h ∨ 9 < a.toNat % 16 then 0x06#8 else 0x00#8) ||| (if c ∨ 0x99 < a.toNat then 0x60#8 else 0x00#8)

/-- The adjustment `DAA` makes after a subtraction (42_alu8.md R233). -/
def daaSubAdjust (h c : Bool) : Byte := (if h then 0x06#8 else 0x00#8) ||| (if c then 0x60#8 else 0x00#8)

/-- `A` after `DAA` (42_alu8.md R233). -/
def daaResult (a : Byte) (n h c : Bool) : Byte :=
  if n then a - daaSubAdjust h c else a + daaAddAdjust a h c

/-- `C` after `DAA`: set by a decimal carry of an addition, kept after a subtraction (42_alu8.md R233). -/
def daaCarry (a : Byte) (n c : Bool) : Bool := c || (!n && 0x99 < a.toNat)

/-- `DAA` (42_alu8.md R233). -/
def State.daa (s : State) : State :=
  let r := daaResult s.cpu.a s.flagN s.flagH s.flagC
  (s.setReg8 .a r).setFlags (r = 0) s.flagN false (daaCarry s.cpu.a s.flagN s.flagC)

/-- `ADD HL,rp`: flags `- 0 H C` from bits 11 and 15 (43_alu16.md R260). -/
def State.addHL (v : Word) (s : State) : State :=
  let h := s.reg16 .hl
  (s.setReg16 .hl (h + v)).setFlags s.flagZ false
    (0xFFF < h.toNat % 0x1000 + v.toNat % 0x1000) (0xFFFF < h.toNat + v.toNat)

/-- The flags `0 0 H C` of `SP + e`, from the unsigned addition of the low byte of `SP` (43_alu16.md R263,
41_load16_stack.md R203). -/
def State.spFlags (e : Byte) (s : State) : State :=
  s.setFlags false false (0xF < s.cpu.sp.toNat % 16 + e.toNat % 16) (0xFF < s.cpu.sp.toNat % 256 + e.toNat)

/-- `RLC` and `RLCA`: the result and the bit rotated out (44_rotate_shift_bit.md R270, R275). -/
def rotlc (m : Byte) (_c : Bool) : Byte × Bool := (m <<< 1 ||| carryByte (m.getLsbD 7), m.getLsbD 7)

/-- `RRC` and `RRCA` (44_rotate_shift_bit.md R271, R276). -/
def rotrc (m : Byte) (_c : Bool) : Byte × Bool := (m >>> 1 ||| (carryByte (m.getLsbD 0) <<< 7), m.getLsbD 0)

/-- `RL` and `RLA`: a 9-bit rotate through the carry (44_rotate_shift_bit.md R272, R277). -/
def rotl (m : Byte) (c : Bool) : Byte × Bool := (m <<< 1 ||| carryByte c, m.getLsbD 7)

/-- `RR` and `RRA` (44_rotate_shift_bit.md R273, R278). -/
def rotr (m : Byte) (c : Bool) : Byte × Bool := (m >>> 1 ||| (carryByte c <<< 7), m.getLsbD 0)

/-- `SLA` (44_rotate_shift_bit.md R279). -/
def shiftLeft (m : Byte) (_c : Bool) : Byte × Bool := (m <<< 1, m.getLsbD 7)

/-- `SRA`: bit 7 is kept (44_rotate_shift_bit.md R280). -/
def shiftRightArith (m : Byte) (_c : Bool) : Byte × Bool := (m.sshiftRight 1, m.getLsbD 0)

/-- `SWAP`: the nibbles exchanged, `C` cleared (44_rotate_shift_bit.md R281). -/
def swapNibbles (m : Byte) (_c : Bool) : Byte × Bool := (m <<< 4 ||| m >>> 4, false)

/-- `SRL` (44_rotate_shift_bit.md R282). -/
def shiftRight (m : Byte) (_c : Bool) : Byte × Bool := (m >>> 1, m.getLsbD 0)

/-- The flags `Z 0 1 -` of `BIT b` (44_rotate_shift_bit.md R283). -/
def State.bitFlags (b : Nat) (m : Byte) (s : State) : State := s.setFlags (!m.getLsbD b) false true s.flagC

/-- `m & ~(1 << b)` (44_rotate_shift_bit.md R284). -/
def resetBit (b : Nat) (m : Byte) : Byte := m &&& ~~~(1#8 <<< b)

/-- `m | (1 << b)` (44_rotate_shift_bit.md R285). -/
def setBit (b : Nat) (m : Byte) : Byte := m ||| 1#8 <<< b

end Sys2Proof.Machine
end

