-- ==== Sys2Proof/Decode.lean ====
section
/-! DEFINITION. Decoding and encoding (30_encoding.md). Every first byte is the opcode of a row, so only an empty or a
cut-off list of bytes is rejected (R156, R157). -/

namespace Sys2Proof

/-- Why a list of bytes holds no instruction. -/
inductive DecodeError
  /-- There is no first byte. -/
  | empty
  /-- An immediate byte is missing. -/
  | truncated
deriving DecidableEq, Repr

/-- The outcome of decoding: the instruction and the bytes after it, or a rejection by name. -/
inductive DecodeResult
  | ok (i : Instr) (rest : List Byte)
  | rejected (e : DecodeError)
deriving DecidableEq, Repr

/-- What follows an opcode (30_encoding.md R143). -/
inductive OpForm
  /-- `OP`: no immediate. -/
  | plain (i : Instr)
  /-- `OP_D8`, `OP_E8`, `OP_A8`: one immediate byte. -/
  | imm8 (f : Byte → Instr)
  /-- `OP_D16`, `OP_A16`: two immediate bytes, the low one first. -/
  | imm16 (f : Word → Instr)
  /-- `OP_SKIP`: one byte that is skipped without being read. -/
  | skip (i : Instr)
  /-- `CB_OP`: a second opcode byte. -/
  | cb

/-- The operand field `z` of a prefixed instruction (30_encoding.md R144). -/
def operandOf (z : Nat) : Operand :=
  match z with
  | 0 => .reg .b
  | 1 => .reg .c
  | 2 => .reg .d
  | 3 => .reg .e
  | 4 => .reg .h
  | 5 => .reg .l
  | 6 => .indHL
  | _ => .reg .a

/-- Opcodes with `x = 0`, `z = 0`, by `y` (30_encoding.md R151). -/
def opX0Z0 (y : Nat) : OpForm :=
  match y with
  | 0 => .plain .nop
  | 1 => .imm16 .ldIndA16SP
  | 2 => .skip .stop
  | 3 => .imm8 .jr
  | 4 => .imm8 .jrNZ
  | 5 => .imm8 .jrZ
  | 6 => .imm8 .jrNC
  | _ => .imm8 .jrC

/-- Opcodes with `x = 0`, `z = 1`, by `y` (30_encoding.md R151). -/
def opX0Z1 (y : Nat) : OpForm :=
  match y with
  | 0 => .imm16 .ldBCImm
  | 1 => .plain .addHLBC
  | 2 => .imm16 .ldDEImm
  | 3 => .plain .addHLDE
  | 4 => .imm16 .ldHLImm
  | 5 => .plain .addHLHL
  | 6 => .imm16 .ldSPImm
  | _ => .plain .addHLSP

/-- Opcodes with `x = 0`, `z = 2`, by `y` (30_encoding.md R151). -/
def opX0Z2 (y : Nat) : OpForm :=
  match y with
  | 0 => .plain .ldIndBCA
  | 1 => .plain .ldAIndBC
  | 2 => .plain .ldIndDEA
  | 3 => .plain .ldAIndDE
  | 4 => .plain .ldIndHLIncA
  | 5 => .plain .ldAIndHLInc
  | 6 => .plain .ldIndHLDecA
  | _ => .plain .ldAIndHLDec

/-- Opcodes with `x = 0`, `z = 3`, by `y` (30_encoding.md R151). -/
def opX0Z3 (y : Nat) : OpForm :=
  match y with
  | 0 => .plain .incBC
  | 1 => .plain .decBC
  | 2 => .plain .incDE
  | 3 => .plain .decDE
  | 4 => .plain .incHL
  | 5 => .plain .decHL
  | 6 => .plain .incSP
  | _ => .plain .decSP

/-- Opcodes with `x = 0`, `z = 4`, by `y` (30_encoding.md R151). -/
def opX0Z4 (y : Nat) : OpForm :=
  match y with
  | 0 => .plain .incB
  | 1 => .plain .incC
  | 2 => .plain .incD
  | 3 => .plain .incE
  | 4 => .plain .incH
  | 5 => .plain .incL
  | 6 => .plain .incIndHL
  | _ => .plain .incA

/-- Opcodes with `x = 0`, `z = 5`, by `y` (30_encoding.md R151). -/
def opX0Z5 (y : Nat) : OpForm :=
  match y with
  | 0 => .plain .decB
  | 1 => .plain .decC
  | 2 => .plain .decD
  | 3 => .plain .decE
  | 4 => .plain .decH
  | 5 => .plain .decL
  | 6 => .plain .decIndHL
  | _ => .plain .decA

/-- Opcodes with `x = 0`, `z = 6`, by `y` (30_encoding.md R151). -/
def opX0Z6 (y : Nat) : OpForm :=
  match y with
  | 0 => .imm8 .ldBImm
  | 1 => .imm8 .ldCImm
  | 2 => .imm8 .ldDImm
  | 3 => .imm8 .ldEImm
  | 4 => .imm8 .ldHImm
  | 5 => .imm8 .ldLImm
  | 6 => .imm8 .ldIndHLImm
  | _ => .imm8 .ldAImm

/-- Opcodes with `x = 0`, `z = 7`, by `y` (30_encoding.md R151). -/
def opX0Z7 (y : Nat) : OpForm :=
  match y with
  | 0 => .plain .rlca
  | 1 => .plain .rrca
  | 2 => .plain .rla
  | 3 => .plain .rra
  | 4 => .plain .daa
  | 5 => .plain .cpl
  | 6 => .plain .scf
  | _ => .plain .ccf

/-- Opcodes with `x = 1`, `z = 0`, by `y` (30_encoding.md R152). -/
def opX1Z0 (y : Nat) : OpForm :=
  match y with
  | 0 => .plain .ldBB
  | 1 => .plain .ldCB
  | 2 => .plain .ldDB
  | 3 => .plain .ldEB
  | 4 => .plain .ldHB
  | 5 => .plain .ldLB
  | 6 => .plain .ldIndHLB
  | _ => .plain .ldAB

/-- Opcodes with `x = 1`, `z = 1`, by `y` (30_encoding.md R152). -/
def opX1Z1 (y : Nat) : OpForm :=
  match y with
  | 0 => .plain .ldBC
  | 1 => .plain .ldCC
  | 2 => .plain .ldDC
  | 3 => .plain .ldEC
  | 4 => .plain .ldHC
  | 5 => .plain .ldLC
  | 6 => .plain .ldIndHLC
  | _ => .plain .ldAC

/-- Opcodes with `x = 1`, `z = 2`, by `y` (30_encoding.md R152). -/
def opX1Z2 (y : Nat) : OpForm :=
  match y with
  | 0 => .plain .ldBD
  | 1 => .plain .ldCD
  | 2 => .plain .ldDD
  | 3 => .plain .ldED
  | 4 => .plain .ldHD
  | 5 => .plain .ldLD
  | 6 => .plain .ldIndHLD
  | _ => .plain .ldAD

/-- Opcodes with `x = 1`, `z = 3`, by `y` (30_encoding.md R152). -/
def opX1Z3 (y : Nat) : OpForm :=
  match y with
  | 0 => .plain .ldBE
  | 1 => .plain .ldCE
  | 2 => .plain .ldDE
  | 3 => .plain .ldEE
  | 4 => .plain .ldHE
  | 5 => .plain .ldLE
  | 6 => .plain .ldIndHLE
  | _ => .plain .ldAE

/-- Opcodes with `x = 1`, `z = 4`, by `y` (30_encoding.md R152). -/
def opX1Z4 (y : Nat) : OpForm :=
  match y with
  | 0 => .plain .ldBH
  | 1 => .plain .ldCH
  | 2 => .plain .ldDH
  | 3 => .plain .ldEH
  | 4 => .plain .ldHH
  | 5 => .plain .ldLH
  | 6 => .plain .ldIndHLH
  | _ => .plain .ldAH

/-- Opcodes with `x = 1`, `z = 5`, by `y` (30_encoding.md R152). -/
def opX1Z5 (y : Nat) : OpForm :=
  match y with
  | 0 => .plain .ldBL
  | 1 => .plain .ldCL
  | 2 => .plain .ldDL
  | 3 => .plain .ldEL
  | 4 => .plain .ldHL
  | 5 => .plain .ldLL
  | 6 => .plain .ldIndHLL
  | _ => .plain .ldAL

/-- Opcodes with `x = 1`, `z = 6`, by `y` (30_encoding.md R152). -/
def opX1Z6 (y : Nat) : OpForm :=
  match y with
  | 0 => .plain .ldBIndHL
  | 1 => .plain .ldCIndHL
  | 2 => .plain .ldDIndHL
  | 3 => .plain .ldEIndHL
  | 4 => .plain .ldHIndHL
  | 5 => .plain .ldLIndHL
  | 6 => .plain .halt
  | _ => .plain .ldAIndHL

/-- Opcodes with `x = 1`, `z = 7`, by `y` (30_encoding.md R152). -/
def opX1Z7 (y : Nat) : OpForm :=
  match y with
  | 0 => .plain .ldBA
  | 1 => .plain .ldCA
  | 2 => .plain .ldDA
  | 3 => .plain .ldEA
  | 4 => .plain .ldHA
  | 5 => .plain .ldLA
  | 6 => .plain .ldIndHLA
  | _ => .plain .ldAA

/-- Opcodes with `x = 2`, `z = 0`, by `y` (30_encoding.md R153). -/
def opX2Z0 (y : Nat) : OpForm :=
  match y with
  | 0 => .plain .addAB
  | 1 => .plain .adcAB
  | 2 => .plain .subB
  | 3 => .plain .sbcAB
  | 4 => .plain .andB
  | 5 => .plain .xorB
  | 6 => .plain .orB
  | _ => .plain .cpB

/-- Opcodes with `x = 2`, `z = 1`, by `y` (30_encoding.md R153). -/
def opX2Z1 (y : Nat) : OpForm :=
  match y with
  | 0 => .plain .addAC
  | 1 => .plain .adcAC
  | 2 => .plain .subC
  | 3 => .plain .sbcAC
  | 4 => .plain .andC
  | 5 => .plain .xorC
  | 6 => .plain .orC
  | _ => .plain .cpC

/-- Opcodes with `x = 2`, `z = 2`, by `y` (30_encoding.md R153). -/
def opX2Z2 (y : Nat) : OpForm :=
  match y with
  | 0 => .plain .addAD
  | 1 => .plain .adcAD
  | 2 => .plain .subD
  | 3 => .plain .sbcAD
  | 4 => .plain .andD
  | 5 => .plain .xorD
  | 6 => .plain .orD
  | _ => .plain .cpD

/-- Opcodes with `x = 2`, `z = 3`, by `y` (30_encoding.md R153). -/
def opX2Z3 (y : Nat) : OpForm :=
  match y with
  | 0 => .plain .addAE
  | 1 => .plain .adcAE
  | 2 => .plain .subE
  | 3 => .plain .sbcAE
  | 4 => .plain .andE
  | 5 => .plain .xorE
  | 6 => .plain .orE
  | _ => .plain .cpE

/-- Opcodes with `x = 2`, `z = 4`, by `y` (30_encoding.md R153). -/
def opX2Z4 (y : Nat) : OpForm :=
  match y with
  | 0 => .plain .addAH
  | 1 => .plain .adcAH
  | 2 => .plain .subH
  | 3 => .plain .sbcAH
  | 4 => .plain .andH
  | 5 => .plain .xorH
  | 6 => .plain .orH
  | _ => .plain .cpH

/-- Opcodes with `x = 2`, `z = 5`, by `y` (30_encoding.md R153). -/
def opX2Z5 (y : Nat) : OpForm :=
  match y with
  | 0 => .plain .addAL
  | 1 => .plain .adcAL
  | 2 => .plain .subL
  | 3 => .plain .sbcAL
  | 4 => .plain .andL
  | 5 => .plain .xorL
  | 6 => .plain .orL
  | _ => .plain .cpL

/-- Opcodes with `x = 2`, `z = 6`, by `y` (30_encoding.md R153). -/
def opX2Z6 (y : Nat) : OpForm :=
  match y with
  | 0 => .plain .addAIndHL
  | 1 => .plain .adcAIndHL
  | 2 => .plain .subIndHL
  | 3 => .plain .sbcAIndHL
  | 4 => .plain .andIndHL
  | 5 => .plain .xorIndHL
  | 6 => .plain .orIndHL
  | _ => .plain .cpIndHL

/-- Opcodes with `x = 2`, `z = 7`, by `y` (30_encoding.md R153). -/
def opX2Z7 (y : Nat) : OpForm :=
  match y with
  | 0 => .plain .addAA
  | 1 => .plain .adcAA
  | 2 => .plain .subA
  | 3 => .plain .sbcAA
  | 4 => .plain .andA
  | 5 => .plain .xorA
  | 6 => .plain .orA
  | _ => .plain .cpA

/-- Opcodes with `x = 3`, `z = 0`, by `y` (30_encoding.md R154). -/
def opX3Z0 (y : Nat) : OpForm :=
  match y with
  | 0 => .plain .retNZ
  | 1 => .plain .retZ
  | 2 => .plain .retNC
  | 3 => .plain .retC
  | 4 => .imm8 .ldhIndA8A
  | 5 => .imm8 .addSPImm
  | 6 => .imm8 .ldhAIndA8
  | _ => .imm8 .ldHLSPImm

/-- Opcodes with `x = 3`, `z = 1`, by `y` (30_encoding.md R154). -/
def opX3Z1 (y : Nat) : OpForm :=
  match y with
  | 0 => .plain .popBC
  | 1 => .plain .ret
  | 2 => .plain .popDE
  | 3 => .plain .reti
  | 4 => .plain .popHL
  | 5 => .plain .jpHL
  | 6 => .plain .popAF
  | _ => .plain .ldSPHL

/-- Opcodes with `x = 3`, `z = 2`, by `y` (30_encoding.md R154). -/
def opX3Z2 (y : Nat) : OpForm :=
  match y with
  | 0 => .imm16 .jpNZ
  | 1 => .imm16 .jpZ
  | 2 => .imm16 .jpNC
  | 3 => .imm16 .jpC
  | 4 => .plain .ldhIndCA
  | 5 => .imm16 .ldIndA16A
  | 6 => .plain .ldhAIndC
  | _ => .imm16 .ldAIndA16

/-- Opcodes with `x = 3`, `z = 3`, by `y` (30_encoding.md R154). -/
def opX3Z3 (y : Nat) : OpForm :=
  match y with
  | 0 => .imm16 .jp
  | 1 => .cb
  | 2 => .plain .undefD3
  | 3 => .plain .undefDB
  | 4 => .plain .undefE3
  | 5 => .plain .undefEB
  | 6 => .plain .di
  | _ => .plain .ei

/-- Opcodes with `x = 3`, `z = 4`, by `y` (30_encoding.md R154). -/
def opX3Z4 (y : Nat) : OpForm :=
  match y with
  | 0 => .imm16 .callNZ
  | 1 => .imm16 .callZ
  | 2 => .imm16 .callNC
  | 3 => .imm16 .callC
  | 4 => .plain .undefE4
  | 5 => .plain .undefEC
  | 6 => .plain .undefF4
  | _ => .plain .undefFC

/-- Opcodes with `x = 3`, `z = 5`, by `y` (30_encoding.md R154). -/
def opX3Z5 (y : Nat) : OpForm :=
  match y with
  | 0 => .plain .pushBC
  | 1 => .imm16 .call
  | 2 => .plain .pushDE
  | 3 => .plain .undefDD
  | 4 => .plain .pushHL
  | 5 => .plain .undefED
  | 6 => .plain .pushAF
  | _ => .plain .undefFD

/-- Opcodes with `x = 3`, `z = 6`, by `y` (30_encoding.md R154). -/
def opX3Z6 (y : Nat) : OpForm :=
  match y with
  | 0 => .imm8 .addAImm
  | 1 => .imm8 .adcAImm
  | 2 => .imm8 .subImm
  | 3 => .imm8 .sbcAImm
  | 4 => .imm8 .andImm
  | 5 => .imm8 .xorImm
  | 6 => .imm8 .orImm
  | _ => .imm8 .cpImm

/-- Opcodes with `x = 3`, `z = 7`, by `y` (30_encoding.md R154). -/
def opX3Z7 (y : Nat) : OpForm :=
  match y with
  | 0 => .plain .rst00
  | 1 => .plain .rst08
  | 2 => .plain .rst10
  | 3 => .plain .rst18
  | 4 => .plain .rst20
  | 5 => .plain .rst28
  | 6 => .plain .rst30
  | _ => .plain .rst38

/-- Opcodes with `x = 0` (30_encoding.md R151). -/
def opX0 (y z : Nat) : OpForm :=
  match z with
  | 0 => opX0Z0 y
  | 1 => opX0Z1 y
  | 2 => opX0Z2 y
  | 3 => opX0Z3 y
  | 4 => opX0Z4 y
  | 5 => opX0Z5 y
  | 6 => opX0Z6 y
  | _ => opX0Z7 y

/-- Opcodes with `x = 1` (30_encoding.md R152). -/
def opX1 (y z : Nat) : OpForm :=
  match z with
  | 0 => opX1Z0 y
  | 1 => opX1Z1 y
  | 2 => opX1Z2 y
  | 3 => opX1Z3 y
  | 4 => opX1Z4 y
  | 5 => opX1Z5 y
  | 6 => opX1Z6 y
  | _ => opX1Z7 y

/-- Opcodes with `x = 2` (30_encoding.md R153). -/
def opX2 (y z : Nat) : OpForm :=
  match z with
  | 0 => opX2Z0 y
  | 1 => opX2Z1 y
  | 2 => opX2Z2 y
  | 3 => opX2Z3 y
  | 4 => opX2Z4 y
  | 5 => opX2Z5 y
  | 6 => opX2Z6 y
  | _ => opX2Z7 y

/-- Opcodes with `x = 3` (30_encoding.md R154). -/
def opX3 (y z : Nat) : OpForm :=
  match z with
  | 0 => opX3Z0 y
  | 1 => opX3Z1 y
  | 2 => opX3Z2 y
  | 3 => opX3Z3 y
  | 4 => opX3Z4 y
  | 5 => opX3Z5 y
  | 6 => opX3Z6 y
  | _ => opX3Z7 y

/-- The opcode table for a first byte (30_encoding.md R151 to R154). -/
def opForm (op : Byte) : OpForm :=
  match fieldX op with
  | 0 => opX0 (fieldY op) (fieldZ op)
  | 1 => opX1 (fieldY op) (fieldZ op)
  | 2 => opX2 (fieldY op) (fieldZ op)
  | _ => opX3 (fieldY op) (fieldZ op)

/-- The rotate or shift with the field `y` (30_encoding.md R149, R155). -/
def rotOf (y : Nat) (r : Operand) : Instr :=
  match y with
  | 0 => .rlc r
  | 1 => .rrc r
  | 2 => .rl r
  | 3 => .rr r
  | 4 => .sla r
  | 5 => .sra r
  | 6 => .swap r
  | _ => .srl r

/-- `BIT` with the field `y` (30_encoding.md R149, R155). -/
def bitOf (y : Nat) (r : Operand) : Instr :=
  match y with
  | 0 => .bit0 r
  | 1 => .bit1 r
  | 2 => .bit2 r
  | 3 => .bit3 r
  | 4 => .bit4 r
  | 5 => .bit5 r
  | 6 => .bit6 r
  | _ => .bit7 r

/-- `RES` with the field `y` (30_encoding.md R149, R155). -/
def resOf (y : Nat) (r : Operand) : Instr :=
  match y with
  | 0 => .res0 r
  | 1 => .res1 r
  | 2 => .res2 r
  | 3 => .res3 r
  | 4 => .res4 r
  | 5 => .res5 r
  | 6 => .res6 r
  | _ => .res7 r

/-- `SET` with the field `y` (30_encoding.md R149, R155). -/
def setOf (y : Nat) (r : Operand) : Instr :=
  match y with
  | 0 => .set0 r
  | 1 => .set1 r
  | 2 => .set2 r
  | 3 => .set3 r
  | 4 => .set4 r
  | 5 => .set5 r
  | 6 => .set6 r
  | _ => .set7 r

/-- The instruction a second byte after `0xCB` selects (30_encoding.md R155). -/
def cbInstr (op2 : Byte) : Instr :=
  match fieldX op2 with
  | 0 => rotOf (fieldY op2) (operandOf (fieldZ op2))
  | 1 => bitOf (fieldY op2) (operandOf (fieldZ op2))
  | 2 => resOf (fieldY op2) (operandOf (fieldZ op2))
  | _ => setOf (fieldY op2) (operandOf (fieldZ op2))

/-- Decode the instruction at the head of a list of bytes. The prefix `0xCB` with no second byte is the row of the
prefix itself; with one, the prefixed instruction (30_encoding.md R140, R155, R157). -/
def decode (bytes : List Byte) : DecodeResult :=
  match bytes with
  | [] => .rejected .empty
  | op :: rest =>
    match opForm op with
    | .plain i => .ok i rest
    | .imm8 f =>
      match rest with
      | v :: r => .ok (f v) r
      | [] => .rejected .truncated
    | .imm16 f =>
      match rest with
      | lo :: hi :: r => .ok (f (join hi lo)) r
      | _ => .rejected .truncated
    | .skip i => .ok i rest.tail
    | .cb =>
      match rest with
      | op2 :: r => .ok (cbInstr op2) r
      | [] => .ok .prefixCb []

/-- The number of bytes an instruction fetches after its opcode. `STOP` skips its second byte without reading it
(30_encoding.md R157, 46_system.md R323). -/
def operandCount (op : Byte) : Nat :=
  match opForm op with
  | .plain _ => 0
  | .imm8 _ => 1
  | .imm16 _ => 2
  | .skip _ => 0
  | .cb => 1

/-- The operand field's code (30_encoding.md R144). -/
def operandCode (r : Operand) : Byte :=
  match r with
  | .reg .b => 0x00
  | .reg .c => 0x01
  | .reg .d => 0x02
  | .reg .e => 0x03
  | .reg .h => 0x04
  | .reg .l => 0x05
  | .indHL => 0x06
  | .reg .a => 0x07

/-- The bytes of an instruction, in ascending address order (30_encoding.md R143, R151 to R155). `STOP` is assembled
with a second byte of zero (R160). -/
def encode (i : Instr) : List Byte :=
  match i with
  | .nop => [0x00#8]
  | .ldBCImm v => [0x01#8, loByte v, hiByte v]
  | .ldIndBCA => [0x02#8]
  | .incBC => [0x03#8]
  | .incB => [0x04#8]
  | .decB => [0x05#8]
  | .ldBImm v => [0x06#8, v]
  | .rlca => [0x07#8]
  | .ldIndA16SP a => [0x08#8, loByte a, hiByte a]
  | .addHLBC => [0x09#8]
  | .ldAIndBC => [0x0A#8]
  | .decBC => [0x0B#8]
  | .incC => [0x0C#8]
  | .decC => [0x0D#8]
  | .ldCImm v => [0x0E#8, v]
  | .rrca => [0x0F#8]
  | .stop => [0x10#8, 0x00#8]
  | .ldDEImm v => [0x11#8, loByte v, hiByte v]
  | .ldIndDEA => [0x12#8]
  | .incDE => [0x13#8]
  | .incD => [0x14#8]
  | .decD => [0x15#8]
  | .ldDImm v => [0x16#8, v]
  | .rla => [0x17#8]
  | .jr e => [0x18#8, e]
  | .addHLDE => [0x19#8]
  | .ldAIndDE => [0x1A#8]
  | .decDE => [0x1B#8]
  | .incE => [0x1C#8]
  | .decE => [0x1D#8]
  | .ldEImm v => [0x1E#8, v]
  | .rra => [0x1F#8]
  | .jrNZ e => [0x20#8, e]
  | .ldHLImm v => [0x21#8, loByte v, hiByte v]
  | .ldIndHLIncA => [0x22#8]
  | .incHL => [0x23#8]
  | .incH => [0x24#8]
  | .decH => [0x25#8]
  | .ldHImm v => [0x26#8, v]
  | .daa => [0x27#8]
  | .jrZ e => [0x28#8, e]
  | .addHLHL => [0x29#8]
  | .ldAIndHLInc => [0x2A#8]
  | .decHL => [0x2B#8]
  | .incL => [0x2C#8]
  | .decL => [0x2D#8]
  | .ldLImm v => [0x2E#8, v]
  | .cpl => [0x2F#8]
  | .jrNC e => [0x30#8, e]
  | .ldSPImm v => [0x31#8, loByte v, hiByte v]
  | .ldIndHLDecA => [0x32#8]
  | .incSP => [0x33#8]
  | .incIndHL => [0x34#8]
  | .decIndHL => [0x35#8]
  | .ldIndHLImm v => [0x36#8, v]
  | .scf => [0x37#8]
  | .jrC e => [0x38#8, e]
  | .addHLSP => [0x39#8]
  | .ldAIndHLDec => [0x3A#8]
  | .decSP => [0x3B#8]
  | .incA => [0x3C#8]
  | .decA => [0x3D#8]
  | .ldAImm v => [0x3E#8, v]
  | .ccf => [0x3F#8]
  | .ldBB => [0x40#8]
  | .ldBC => [0x41#8]
  | .ldBD => [0x42#8]
  | .ldBE => [0x43#8]
  | .ldBH => [0x44#8]
  | .ldBL => [0x45#8]
  | .ldBIndHL => [0x46#8]
  | .ldBA => [0x47#8]
  | .ldCB => [0x48#8]
  | .ldCC => [0x49#8]
  | .ldCD => [0x4A#8]
  | .ldCE => [0x4B#8]
  | .ldCH => [0x4C#8]
  | .ldCL => [0x4D#8]
  | .ldCIndHL => [0x4E#8]
  | .ldCA => [0x4F#8]
  | .ldDB => [0x50#8]
  | .ldDC => [0x51#8]
  | .ldDD => [0x52#8]
  | .ldDE => [0x53#8]
  | .ldDH => [0x54#8]
  | .ldDL => [0x55#8]
  | .ldDIndHL => [0x56#8]
  | .ldDA => [0x57#8]
  | .ldEB => [0x58#8]
  | .ldEC => [0x59#8]
  | .ldED => [0x5A#8]
  | .ldEE => [0x5B#8]
  | .ldEH => [0x5C#8]
  | .ldEL => [0x5D#8]
  | .ldEIndHL => [0x5E#8]
  | .ldEA => [0x5F#8]
  | .ldHB => [0x60#8]
  | .ldHC => [0x61#8]
  | .ldHD => [0x62#8]
  | .ldHE => [0x63#8]
  | .ldHH => [0x64#8]
  | .ldHL => [0x65#8]
  | .ldHIndHL => [0x66#8]
  | .ldHA => [0x67#8]
  | .ldLB => [0x68#8]
  | .ldLC => [0x69#8]
  | .ldLD => [0x6A#8]
  | .ldLE => [0x6B#8]
  | .ldLH => [0x6C#8]
  | .ldLL => [0x6D#8]
  | .ldLIndHL => [0x6E#8]
  | .ldLA => [0x6F#8]
  | .ldIndHLB => [0x70#8]
  | .ldIndHLC => [0x71#8]
  | .ldIndHLD => [0x72#8]
  | .ldIndHLE => [0x73#8]
  | .ldIndHLH => [0x74#8]
  | .ldIndHLL => [0x75#8]
  | .halt => [0x76#8]
  | .ldIndHLA => [0x77#8]
  | .ldAB => [0x78#8]
  | .ldAC => [0x79#8]
  | .ldAD => [0x7A#8]
  | .ldAE => [0x7B#8]
  | .ldAH => [0x7C#8]
  | .ldAL => [0x7D#8]
  | .ldAIndHL => [0x7E#8]
  | .ldAA => [0x7F#8]
  | .addAB => [0x80#8]
  | .addAC => [0x81#8]
  | .addAD => [0x82#8]
  | .addAE => [0x83#8]
  | .addAH => [0x84#8]
  | .addAL => [0x85#8]
  | .addAIndHL => [0x86#8]
  | .addAA => [0x87#8]
  | .adcAB => [0x88#8]
  | .adcAC => [0x89#8]
  | .adcAD => [0x8A#8]
  | .adcAE => [0x8B#8]
  | .adcAH => [0x8C#8]
  | .adcAL => [0x8D#8]
  | .adcAIndHL => [0x8E#8]
  | .adcAA => [0x8F#8]
  | .subB => [0x90#8]
  | .subC => [0x91#8]
  | .subD => [0x92#8]
  | .subE => [0x93#8]
  | .subH => [0x94#8]
  | .subL => [0x95#8]
  | .subIndHL => [0x96#8]
  | .subA => [0x97#8]
  | .sbcAB => [0x98#8]
  | .sbcAC => [0x99#8]
  | .sbcAD => [0x9A#8]
  | .sbcAE => [0x9B#8]
  | .sbcAH => [0x9C#8]
  | .sbcAL => [0x9D#8]
  | .sbcAIndHL => [0x9E#8]
  | .sbcAA => [0x9F#8]
  | .andB => [0xA0#8]
  | .andC => [0xA1#8]
  | .andD => [0xA2#8]
  | .andE => [0xA3#8]
  | .andH => [0xA4#8]
  | .andL => [0xA5#8]
  | .andIndHL => [0xA6#8]
  | .andA => [0xA7#8]
  | .xorB => [0xA8#8]
  | .xorC => [0xA9#8]
  | .xorD => [0xAA#8]
  | .xorE => [0xAB#8]
  | .xorH => [0xAC#8]
  | .xorL => [0xAD#8]
  | .xorIndHL => [0xAE#8]
  | .xorA => [0xAF#8]
  | .orB => [0xB0#8]
  | .orC => [0xB1#8]
  | .orD => [0xB2#8]
  | .orE => [0xB3#8]
  | .orH => [0xB4#8]
  | .orL => [0xB5#8]
  | .orIndHL => [0xB6#8]
  | .orA => [0xB7#8]
  | .cpB => [0xB8#8]
  | .cpC => [0xB9#8]
  | .cpD => [0xBA#8]
  | .cpE => [0xBB#8]
  | .cpH => [0xBC#8]
  | .cpL => [0xBD#8]
  | .cpIndHL => [0xBE#8]
  | .cpA => [0xBF#8]
  | .retNZ => [0xC0#8]
  | .popBC => [0xC1#8]
  | .jpNZ a => [0xC2#8, loByte a, hiByte a]
  | .jp a => [0xC3#8, loByte a, hiByte a]
  | .callNZ a => [0xC4#8, loByte a, hiByte a]
  | .pushBC => [0xC5#8]
  | .addAImm v => [0xC6#8, v]
  | .rst00 => [0xC7#8]
  | .retZ => [0xC8#8]
  | .ret => [0xC9#8]
  | .jpZ a => [0xCA#8, loByte a, hiByte a]
  | .prefixCb => [0xCB#8]
  | .callZ a => [0xCC#8, loByte a, hiByte a]
  | .call a => [0xCD#8, loByte a, hiByte a]
  | .adcAImm v => [0xCE#8, v]
  | .rst08 => [0xCF#8]
  | .retNC => [0xD0#8]
  | .popDE => [0xD1#8]
  | .jpNC a => [0xD2#8, loByte a, hiByte a]
  | .undefD3 => [0xD3#8]
  | .callNC a => [0xD4#8, loByte a, hiByte a]
  | .pushDE => [0xD5#8]
  | .subImm v => [0xD6#8, v]
  | .rst10 => [0xD7#8]
  | .retC => [0xD8#8]
  | .reti => [0xD9#8]
  | .jpC a => [0xDA#8, loByte a, hiByte a]
  | .undefDB => [0xDB#8]
  | .callC a => [0xDC#8, loByte a, hiByte a]
  | .undefDD => [0xDD#8]
  | .sbcAImm v => [0xDE#8, v]
  | .rst18 => [0xDF#8]
  | .ldhIndA8A v => [0xE0#8, v]
  | .popHL => [0xE1#8]
  | .ldhIndCA => [0xE2#8]
  | .undefE3 => [0xE3#8]
  | .undefE4 => [0xE4#8]
  | .pushHL => [0xE5#8]
  | .andImm v => [0xE6#8, v]
  | .rst20 => [0xE7#8]
  | .addSPImm e => [0xE8#8, e]
  | .jpHL => [0xE9#8]
  | .ldIndA16A a => [0xEA#8, loByte a, hiByte a]
  | .undefEB => [0xEB#8]
  | .undefEC => [0xEC#8]
  | .undefED => [0xED#8]
  | .xorImm v => [0xEE#8, v]
  | .rst28 => [0xEF#8]
  | .ldhAIndA8 v => [0xF0#8, v]
  | .popAF => [0xF1#8]
  | .ldhAIndC => [0xF2#8]
  | .di => [0xF3#8]
  | .undefF4 => [0xF4#8]
  | .pushAF => [0xF5#8]
  | .orImm v => [0xF6#8, v]
  | .rst30 => [0xF7#8]
  | .ldHLSPImm e => [0xF8#8, e]
  | .ldSPHL => [0xF9#8]
  | .ldAIndA16 a => [0xFA#8, loByte a, hiByte a]
  | .ei => [0xFB#8]
  | .undefFC => [0xFC#8]
  | .undefFD => [0xFD#8]
  | .cpImm v => [0xFE#8, v]
  | .rst38 => [0xFF#8]
  | .rlc r => [0xCB#8, 0x00#8 ||| operandCode r]
  | .rrc r => [0xCB#8, 0x08#8 ||| operandCode r]
  | .rl r => [0xCB#8, 0x10#8 ||| operandCode r]
  | .rr r => [0xCB#8, 0x18#8 ||| operandCode r]
  | .sla r => [0xCB#8, 0x20#8 ||| operandCode r]
  | .sra r => [0xCB#8, 0x28#8 ||| operandCode r]
  | .swap r => [0xCB#8, 0x30#8 ||| operandCode r]
  | .srl r => [0xCB#8, 0x38#8 ||| operandCode r]
  | .bit0 r => [0xCB#8, 0x40#8 ||| operandCode r]
  | .bit1 r => [0xCB#8, 0x48#8 ||| operandCode r]
  | .bit2 r => [0xCB#8, 0x50#8 ||| operandCode r]
  | .bit3 r => [0xCB#8, 0x58#8 ||| operandCode r]
  | .bit4 r => [0xCB#8, 0x60#8 ||| operandCode r]
  | .bit5 r => [0xCB#8, 0x68#8 ||| operandCode r]
  | .bit6 r => [0xCB#8, 0x70#8 ||| operandCode r]
  | .bit7 r => [0xCB#8, 0x78#8 ||| operandCode r]
  | .res0 r => [0xCB#8, 0x80#8 ||| operandCode r]
  | .res1 r => [0xCB#8, 0x88#8 ||| operandCode r]
  | .res2 r => [0xCB#8, 0x90#8 ||| operandCode r]
  | .res3 r => [0xCB#8, 0x98#8 ||| operandCode r]
  | .res4 r => [0xCB#8, 0xA0#8 ||| operandCode r]
  | .res5 r => [0xCB#8, 0xA8#8 ||| operandCode r]
  | .res6 r => [0xCB#8, 0xB0#8 ||| operandCode r]
  | .res7 r => [0xCB#8, 0xB8#8 ||| operandCode r]
  | .set0 r => [0xCB#8, 0xC0#8 ||| operandCode r]
  | .set1 r => [0xCB#8, 0xC8#8 ||| operandCode r]
  | .set2 r => [0xCB#8, 0xD0#8 ||| operandCode r]
  | .set3 r => [0xCB#8, 0xD8#8 ||| operandCode r]
  | .set4 r => [0xCB#8, 0xE0#8 ||| operandCode r]
  | .set5 r => [0xCB#8, 0xE8#8 ||| operandCode r]
  | .set6 r => [0xCB#8, 0xF0#8 ||| operandCode r]
  | .set7 r => [0xCB#8, 0xF8#8 ||| operandCode r]

/-- The three bytes of a table word: bits `7:0` are the first byte (30_encoding.md R161); the bits above `nbits` are
zero. -/
def tableBytes (nbits w : Nat) : List Byte :=
  let v := w % 2 ^ nbits
  [BitVec.ofNat 8 v, BitVec.ofNat 8 (v / 256), BitVec.ofNat 8 (v / 65536)]

/-- The instruction the decoder reads from a table word. -/
def decodeTableWord (nbits w : Nat) : Option Instr :=
  match decode (tableBytes nbits w) with
  | .ok i _ => some i
  | .rejected _ => none

end Sys2Proof
end

