-- ==== Sys2Proof/Machine/Sched.lean ====
section
/-! DEFINITION. The scheduler: deadlines, their minimum, and which slot fires next (61_scheduler.md). -/

namespace Sys2Proof.Machine

/-- `Sched.time(slot)` (61_scheduler.md R403). -/
def Deadlines.time (sl : Slot) (d : Deadlines) : Option Int :=
  match sl with
  | .unhalt => d.unhalt
  | .endRun => d.endRun
  | .blit => d.blit
  | .serial => d.serial
  | .oamDma => d.oamDma
  | .hdma => d.hdma
  | .tima => d.tima
  | .video => d.video
  | .interrupts => d.interrupts

/-- `deadline[slot] <- t` (61_scheduler.md R402). -/
def Deadlines.set (sl : Slot) (t : Option Int) (d : Deadlines) : Deadlines :=
  match sl with
  | .unhalt => { d with unhalt := t }
  | .endRun => { d with endRun := t }
  | .blit => { d with blit := t }
  | .serial => { d with serial := t }
  | .oamDma => { d with oamDma := t }
  | .hdma => { d with hdma := t }
  | .tima => { d with tima := t }
  | .video => { d with video := t }
  | .interrupts => { d with interrupts := t }

/-- `Sched.set(slot, t)` (61_scheduler.md R402). -/
def State.setSlot (sl : Slot) (t : Option Int) (s : State) : State := { s with sched := s.sched.set sl t }

/-- The lesser of two deadlines, `DISABLED` excluded (61_scheduler.md R404). -/
def minDeadline : Option Int → Option Int → Option Int
  | none, y => y
  | some x, none => some x
  | some x, some y => some (min x y)

/-- `Sched.min()`: the least enabled deadline, `none` for `DISABLED` (61_scheduler.md R404). -/
def Deadlines.minimum (d : Deadlines) : Option Int :=
  minDeadline d.unhalt (minDeadline d.endRun (minDeadline d.blit (minDeadline d.serial (minDeadline d.oamDma
    (minDeadline d.hdma (minDeadline d.tima (minDeadline d.video d.interrupts)))))))

/-- `RunMin()`: while stopped, only UNHALT and END count (60_exceptions.md R341, R357). -/
def State.runMin (s : State) : Option Int :=
  if s.cpu.stopped then minDeadline s.sched.unhalt s.sched.endRun else s.sched.minimum

/-- Whether a deadline has been reached: `deadline ≠ DISABLED and deadline ≤ cc`. -/
def reached (t : Option Int) (cc : Int) : Bool :=
  match t with
  | none => false
  | some x => x ≤ cc

/-- The slots other than END in index order; while stopped, UNHALT alone (61_scheduler.md R405). -/
def State.candidates (s : State) : List Slot :=
  if s.cpu.stopped then [.unhalt]
  else [.unhalt, .blit, .serial, .oamDma, .hdma, .tima, .video, .interrupts]

/-- Of the slots listed, the due one with the least deadline, the earlier in the list among equals
(61_scheduler.md R405). -/
def firstDue (d : Deadlines) (cc : Int) : List Slot → Option (Slot × Int)
  | [] => none
  | sl :: rest =>
    match d.time sl, firstDue d cc rest with
    | none, r => r
    | some t, none => if t ≤ cc then some (sl, t) else none
    | some t, some (sl', t') => if t ≤ cc ∧ t ≤ t' then some (sl, t) else some (sl', t')

/-- `NextSlot(cc)`: END only when no other slot is due (61_scheduler.md R405). -/
def State.nextSlot (s : State) : Slot :=
  match firstDue s.sched s.cc s.candidates with
  | some (sl, _) => sl
  | none => .endRun

end Sys2Proof.Machine
end

