-- ==== Sys2Proof/Machine/Interrupts.lean ====
section
/-! DEFINITION. Interrupt requests and the INTERRUPTS slot (60_exceptions.md R345, R346, R349). -/

namespace Sys2Proof.Machine

/-- `IF & IE & 0x1F` (60_exceptions.md R346). -/
def State.pending (s : State) : BitVec 5 := s.io.ifr &&& s.io.ie.setWidth 5

/-- What `deadline[INTERRUPTS]` is a function of (60_exceptions.md R346). -/
def State.interruptDeadline (s : State) : Option Int :=
  if !s.cpu.stopped && s.pending != 0 && (s.cpu.ime || s.cpu.halted) then some s.cpu.minIntTime else none

/-- `IntRecompute()` (60_exceptions.md R346). -/
def State.intRecompute (s : State) : State := s.setSlot .interrupts s.interruptDeadline

/-- `IF <- v; IntRecompute()` (10_state.md R35). -/
def State.setIf (v : BitVec 5) (s : State) : State := { s with io := { s.io with ifr := v } }.intRecompute

/-- `IE <- v; IntRecompute()` (10_state.md R36). -/
def State.setIe (v : Byte) (s : State) : State := { s with io := { s.io with ie := v } }.intRecompute

/-- `RequestIrq` of every bit of `bits` (60_exceptions.md R345). -/
def State.requestIrqs (bits : BitVec 5) (s : State) : State := s.setIf (s.io.ifr ||| bits)

/-- `RequestIrq(2)`: the timer (60_exceptions.md R347). -/
def State.requestTimerIrq (s : State) : State := s.requestIrqs 0x04#5

/-- The least set bit of `IF & IE & 0x1F`: VBlank, STAT, Timer, Serial, Joypad (60_exceptions.md R349). -/
def lowestBit (p : BitVec 5) : Nat :=
  if p.getLsbD 0 then 0
  else if p.getLsbD 1 then 1
  else if p.getLsbD 2 then 2
  else if p.getLsbD 3 then 3
  else 4

end Sys2Proof.Machine
end

