-- ==== Sys2Proof/Machine/External.lean ====
section
/-! DEFINITION. The outside world: each question takes the next answer of its list, an empty list being "no
device" (20_memory.md R112, R113, R117; log 5). -/

namespace Sys2Proof.Machine

/-- The answer with no device: `0xFF`, and nothing done (93_implementation_defined.md U7). -/
def ExtAnswer.absent : ExtAnswer where
  value := 0xFF
  irq := 0
  sets := []
  vram := []

/-- The scheduler slot of an external slot (61_scheduler.md R400). -/
def ExtSlot.slot : ExtSlot → Slot
  | .blit => .blit
  | .serial => .serial
  | .hdma => .hdma
  | .video => .video

/-- Record an interaction. -/
def State.logEvent (ev : ExtEvent) (s : State) : State := { s with ext := { s.ext with log := ev :: s.ext.log } }

/-- `VramAccessible(cc, kind)` (20_memory.md R117). -/
def State.askVram (s : State) : Bool × State :=
  match s.ext.vramOk with
  | [] => (true, s)
  | b :: r => (b, { s with ext := { s.ext with vramOk := r } })

/-- `OamAccessible(cc, kind)` (20_memory.md R117). -/
def State.askOam (s : State) : Bool × State :=
  match s.ext.oamOk with
  | [] => (true, s)
  | b :: r => (b, { s with ext := { s.ext with oamOk := r } })

/-- `PollInput()`: the mask of pressed buttons, which the joypad handler receives (20_memory.md R113). -/
def State.poll (s : State) : Byte × State :=
  match s.ext.polls with
  | [] => (0, s.logEvent (.poll 0 s.cc))
  | b :: r => (b, { s with ext := { s.ext with polls := r } }.logEvent (.poll b s.cc))

/-- `HostTime()`; with no answer left the host clock stands still at `hostLast` (log 11). -/
def State.hostTime (s : State) : Int × State :=
  match s.ext.times with
  | [] => (s.rtc.hostLast, s)
  | t :: r => (t, { s with ext := { s.ext with times := r } })

/-- Apply the `Sched.set` calls of a handler to the slots it owns (20_memory.md R112). -/
def State.applySets : List (ExtSlot × Option Int) → State → State
  | [], s => s
  | (sl, t) :: rest, s => State.applySets rest (s.setSlot sl.slot t)

/-- Apply the VRAM bytes HDMA writes (20_memory.md R112). -/
def State.applyVram : List (Nat × Byte) → State → State
  | [], s => s
  | (i, v) :: rest, s => State.applyVram rest (s.setByte .vram i v)

/-- Apply what a handler does: deadlines, VRAM bytes (for HDMA only), interrupt requests (20_memory.md R112). -/
def State.applyAnswer (hdma : Bool) (ans : ExtAnswer) (s : State) : State :=
  let s1 := State.applySets ans.sets s
  let s2 := if hdma then State.applyVram ans.vram s1 else s1
  if ans.irq = 0 then s2 else s2.requestIrqs ans.irq

/-- Call an external handler with an event: the byte it returns and the state after (20_memory.md R112). -/
def State.callExt (hdma : Bool) (ev : ExtEvent) (s : State) : Byte × State :=
  match s.ext.answers with
  | [] => (ExtAnswer.absent.value, s.logEvent ev)
  | ans :: r => (ans.value, ({ s with ext := { s.ext with answers := r } }.logEvent ev).applyAnswer hdma ans)

/-- The HDMA registers `0xFF51–0xFF55` (20_memory.md R112). -/
def isHdmaAddress (a : Word) : Bool := 0xFF51 ≤ a.toNat && a.toNat ≤ 0xFF55

/-- `ExtIoRead(a, cc)`. -/
def State.extIoRead (a : Word) (s : State) : Byte × State := s.callExt (isHdmaAddress a) (.ioRead a s.cc)

/-- `ExtIoWrite(a, v, cc)`. -/
def State.extIoWrite (a : Word) (v : Byte) (s : State) : State := (s.callExt (isHdmaAddress a) (.ioWrite a v s.cc)).2

/-- What a handler may leave in the slot it was fired for: `DISABLED` or a deadline greater than `cc`
(20_memory.md R112); anything else counts as `DISABLED` (log 6). -/
def lateOrDisabled (cc : Int) (t : Option Int) : Option Int := if reached t cc then none else t

/-- `ExtFire(slot, cc)` (20_memory.md R112). -/
def State.extFire (sl : ExtSlot) (s : State) : State :=
  let s1 := s.setSlot sl.slot none
  let s2 := (s1.callExt (sl = .hdma) (.fire sl s.cc)).2
  s2.setSlot sl.slot (lateOrDisabled s.cc (s2.sched.time sl.slot))

/-- `ExtResume(d)` (20_memory.md R112). -/
def State.extResume (d : Int) (s : State) : State := (s.callExt false (.resume d s.cc)).2

end Sys2Proof.Machine
end

