-- ==== Sys2Proof/Machine/RtcChip.lean ====
section
/-! DEFINITION. The real-time-clock chip: advance, latch, read, write, host interface (63_rtc.md). -/

namespace Sys2Proof.Machine

/-- `Div2`: half-cycle units per second (63_rtc.md R491). -/
def Rtc.div2 (r : Rtc) : Nat := (2 * (rtcDivisor + r.divisorOffset)).toNat

/-- `DH` as a byte: bits 5:1 are not stored and read 0 (63_rtc.md R490). -/
def RtcRegs.dh (r : RtcRegs) : Byte :=
  (if r.carry then 0x80#8 else 0x00#8) ||| (if r.halt then 0x40#8 else 0x00#8) ||| (if r.day8 then 0x01#8 else 0x00#8)

/-- The 9-bit day counter `DH[0]:DL` (63_rtc.md R490). -/
def RtcRegs.day (r : RtcRegs) : Nat := (if r.day8 then 256 else 0) + r.dl.toNat

/-- The day step of `TickSecond()`: 511 wraps to 0 and sets the sticky carry (63_rtc.md R498). -/
def RtcRegs.tickDay (r : RtcRegs) : RtcRegs :=
  if r.day = 511 then { r with dl := 0x00, day8 := false, carry := true }
  else { r with dl := BitVec.ofNat 8 (r.day + 1), day8 := 256 ≤ r.day + 1 }

/-- The hour step of `TickSecond()` (63_rtc.md R498). -/
def RtcRegs.tickHour (r : RtcRegs) : RtcRegs :=
  if r.h + 1 = 24 then { r with h := 0 }.tickDay else { r with h := r.h + 1 }

/-- The minute step of `TickSecond()` (63_rtc.md R498). -/
def RtcRegs.tickMinute (r : RtcRegs) : RtcRegs :=
  if r.m + 1 = 60 then { r with m := 0 }.tickHour else { r with m := r.m + 1 }

/-- `TickSecond()`: out-of-range fields wrap at their width without carry (63_rtc.md R498). -/
def RtcRegs.tickSecond (r : RtcRegs) : RtcRegs :=
  if r.s + 1 = 60 then { r with s := 0 }.tickMinute else { r with s := r.s + 1 }

/-- `TickSecond()` `n` times. -/
def RtcRegs.tickSeconds : Nat → RtcRegs → RtcRegs
  | 0, r => r
  | n + 1, r => RtcRegs.tickSeconds n r.tickSecond

/-- One minute of layout B: minute 1439 is followed by minute 0 of the next day (63_rtc.md R510; log 12). -/
def RtcB.tickMinute (r : RtcB) : RtcB :=
  if r.minutes = 1439 then { r with minutes := 0, days := r.days + 1 } else { r with minutes := r.minutes + 1 }

/-- One second of layout B: its minute advances once per 60 seconds (63_rtc.md R510; log 12). -/
def RtcB.tickSecond (r : RtcB) : RtcB :=
  if r.seconds = 59 then { r with seconds := 0 }.tickMinute else { r with seconds := r.seconds + 1 }

/-- Layout B's second step `n` times. -/
def RtcB.tickSeconds : Nat → RtcB → RtcB
  | 0, r => r
  | n + 1, r => RtcB.tickSeconds n r.tickSecond

/-- The half-cycle units that elapse from `rtcLast` to `t` in cycle mode (63_rtc.md R491, R497). -/
def State.rtcElapsed (t : Int) (s : State) : Nat :=
  (t - s.rtc.last).toNat * (if s.cpu.doubleSpeed then 1 else 2)

/-- Whether the chip's halt state stops its registers (63_rtc.md R499, R510). -/
def Rtc.halted (layoutB : Bool) (r : Rtc) : Bool := if layoutB then r.layoutB.halted else r.live.halt

/-- `n` seconds of the chip's layout. -/
def Rtc.tickSeconds (layoutB : Bool) (n : Nat) (r : Rtc) : Rtc :=
  if layoutB then { r with layoutB := r.layoutB.tickSeconds n } else { r with live := r.live.tickSeconds n }

/-- Count `e` half-cycle units into the chip, unless it is halted (63_rtc.md R497, R499, R510). -/
def Rtc.count (layoutB : Bool) (e : Nat) (r : Rtc) : Rtc :=
  if r.halted layoutB then r
  else { r with sub := (r.sub + e) % r.div2 }.tickSeconds layoutB ((r.sub + e) / r.div2)

/-- Whether the cartridge's chip has layout B (62_mbc.md R471). -/
def State.rtcLayoutB (s : State) : Bool := s.cartridge.variant = .huc3

/-- `RtcAdvance(t)` (63_rtc.md R497): in cycle mode by `cc`, in wall mode by the host's clock (log 11). -/
def State.rtcAdvance (t : Int) (s : State) : State :=
  if t ≤ s.rtc.last then s
  else
    match s.params.rtcSync with
    | .cycle => { s with rtc := { s.rtc with last := t }.count s.rtcLayoutB (s.rtcElapsed t) }
    | .wall =>
      let q := s.hostTime
      let e := (q.1 - s.rtc.hostLast).toNat * s.rtc.div2
      { q.2 with rtc := { s.rtc with last := t, hostLast := q.1 }.count s.rtcLayoutB e }

/-- `Rtc.latch(t)` (63_rtc.md R500). -/
def State.rtcLatch (s : State) : State :=
  let s1 := s.rtcAdvance s.cc
  { s1 with rtc := { s1.rtc with latched := s1.rtc.live } }

/-- `Rtc.read(i)`: the latched copy, as stored (63_rtc.md R503). -/
def RtcRegs.read (r : RtcRegs) (i : Nat) : Byte :=
  match i with
  | 0 => r.s.setWidth 8
  | 1 => r.m.setWidth 8
  | 2 => r.h.setWidth 8
  | 3 => r.dl
  | _ => r.dh

/-- The live register write of `Rtc.write` (63_rtc.md R504). -/
def RtcRegs.write (r : RtcRegs) (i : Nat) (v : Byte) : RtcRegs :=
  match i with
  | 0 => { r with s := v.setWidth 6 }
  | 1 => { r with m := v.setWidth 6 }
  | 2 => { r with h := v.setWidth 5 }
  | 3 => { r with dl := v }
  | _ => { r with day8 := v.getLsbD 0, halt := v.getLsbD 6, carry := v.getLsbD 7 }

/-- `Rtc.write(i, v, t)`: a seconds write restarts the sub-second counter (63_rtc.md R504). -/
def State.rtcWrite (i : Nat) (v : Byte) (s : State) : State :=
  let s1 := s.rtcAdvance s.cc
  { s1 with rtc := { s1.rtc with
      live := s1.rtc.live.write i v
      sub := if i = 0 then 0 else s1.rtc.sub } }

/-- `Rtc.setBaseTime(ts, t)` (63_rtc.md R507). Its pseudocode performs `RtcAdvance(t)` first, which in wall mode counts the
host's time up to `HostTime()`; its prose says that the host time before `ts` is not counted. The pseudocode is followed:
what has passed by `HostTime()` is counted, and the count goes on from `ts`. DESIGN CHOICE (log 11), unsafe. -/
def State.setBaseTime (ts : Int) (s : State) : State :=
  let s1 := s.rtcAdvance s.cc
  { s1 with rtc := { s1.rtc with
      baseTime := ts
      last := s.cc
      hostLast := match s.params.rtcSync with
        | .cycle => s1.rtc.hostLast
        | .wall => ts } }

/-- The divisor offset, which must leave the divisor positive; one that does not is ignored (63_rtc.md R508; log 11). -/
def State.setDivisorOffset (offset : Int) (s : State) : State :=
  if 0 < rtcDivisor + offset then
    let s1 := s.rtcAdvance s.cc
    { s1 with rtc := { s1.rtc with divisorOffset := offset } }
  else s

end Sys2Proof.Machine
end

