-- ==== Sys2Proof/Machine/MapperUnit.lean ====
section
/-! DEFINITION. The cartridge mapper: its write decoder, the bank multiplexer and the cartridge window
(62_mbc.md). -/

namespace Sys2Proof.Machine

/-- The cartridge RAM bytes the `CART.special` handler writes, those that exist. -/
def State.applySram : List (Nat × Byte) → State → State
  | [], s => s
  | (i, v) :: rest, s =>
    State.applySram rest (if i < s.cartridge.ramBytes then s.setByte .sram i v else s)

/-- The layout-B registers the `CART.special` handler of a HuC3 leaves: the chip is advanced before they are written
(63_rtc.md R497, R510; log 12). They do not hold `sub`, which goes on as it was; R504 restarts it for layout A only, and the
spec is silent here. DESIGN CHOICE (log 12), unsafe. -/
def State.applyLayoutB (regs : Option RtcB) (s : State) : State :=
  match regs with
  | none => s
  | some b =>
    if s.rtcLayoutB then
      let s1 := s.rtcAdvance s.cc
      { s1 with rtc := { s1.rtc with layoutB := b } }
    else s

/-- The next answer of the `CART.special` handler to an event. -/
def State.askSpecial (ev : ExtEvent) (s : State) : Option SpecialAnswer × State :=
  match s.ext.special with
  | [] => (none, s.logEvent ev)
  | ans :: r => (some ans, { s with ext := { s.ext with special := r } }.logEvent ev)

/-- Apply what the `CART.special` handler does at any access (62_mbc.md section 5; log 14). -/
def State.applySpecial (ans : SpecialAnswer) (s : State) : State :=
  (State.applySram ans.sram s).applyLayoutB ans.layoutB

/-- An access to the window of a `CART.special` handler: the byte it answers and the state after. Once its answers are
used up it does nothing and answers a free value (log 14). -/
def State.callSpecial (ev : ExtEvent) (s : State) : Byte × State :=
  match s.askSpecial ev with
  | (none, t) => (Config.freeSpecialByte s.ext.log.length, t)
  | (some ans, t) => (ans.value, t.applySpecial ans)

/-- A write of the registers of a `CART.special` handler, the only access by which it selects banks (62_mbc.md R473,
20_memory.md R97; log 14). -/
def State.writeSpecial (ev : ExtEvent) (s : State) : State :=
  match s.askSpecial ev with
  | (none, t) => t
  | (some ans, t) =>
    let t1 := t.applySpecial ans
    { t1 with mapper := { t1.mapper with
        specialBank0 := ans.bank0.getD t1.mapper.specialBank0
        specialBankN := ans.bankN.getD t1.mapper.specialBankN } }

/-- `Fit(b, n) = b mod n` (62_mbc.md R435). -/
def fit (b n : Nat) : Nat := b % n

/-- `Nz(r)`: the zero-to-one adjustment of the raw ROM bank register (62_mbc.md R437). -/
def nz (r : Nat) : Nat := if r = 0 then 1 else r

/-- The MBC30 wiring: more than 128 ROM banks or more than 4 RAM banks (62_mbc.md R450). -/
def Cart.mbc30 (c : Cart) : Bool := 128 < c.romBanks || 4 < c.ramBanks

/-- The zero-to-one adjustment where the cartridge has it (62_mbc.md R470; log 14). -/
def Cart.adjusted (c : Cart) (r : Nat) : Nat := if c.zeroAdjust then nz r else r

/-- The bank number in the window `0x0000-0x3FFF` before `Fit` (62_mbc.md R436, R473, R474). -/
def Mapper.rawBank0 (c : Cart) (m : Mapper) : Nat :=
  match c.variant with
  | .mbc1 =>
    if m.mode then (if c.multicart then m.bank2.toNat * 16 else m.bank2.toNat * 32) else 0
  | .mmm01 => m.specialBank0
  | .wisdomTree => 2 * m.modeReg.toNat
  | .plain => 0
  | .mbc2 => 0
  | .mbc3 => 0
  | .mbc5 => 0
  | .huc1 => 0
  | .huc3 => 0
  | .camera => 0

/-- The bank number in the window `0x4000-0x7FFF` before `Fit` (62_mbc.md R437, R470 to R474). -/
def Mapper.rawBankN (c : Cart) (m : Mapper) : Nat :=
  match c.variant with
  | .plain => 1
  | .mbc1 =>
    if c.multicart then m.bank2.toNat * 16 + nz m.romBankReg.toNat % 16
    else m.bank2.toNat * 32 + nz m.romBankReg.toNat
  | .mbc2 => nz m.romBankReg.toNat
  | .mbc3 => nz m.romBankReg.toNat
  | .mbc5 => m.romBankReg.toNat
  | .huc1 => c.adjusted m.romBankReg.toNat
  | .huc3 => c.adjusted m.romBankReg.toNat
  | .camera => m.romBankReg.toNat
  | .mmm01 => m.specialBankN
  | .wisdomTree => 2 * m.modeReg.toNat + 1

/-- `RomBank0()` (62_mbc.md R436). -/
def State.romBank0 (s : State) : Nat := fit (s.mapper.rawBank0 s.cartridge) s.cartridge.romBanks

/-- `RomBankN()` (62_mbc.md R437). -/
def State.romBankN (s : State) : Nat := fit (s.mapper.rawBankN s.cartridge) s.cartridge.romBanks

/-- The index into `rom` an address below `0x8000` reaches (20_memory.md R95, R96). -/
def State.romIndex (a : Nat) (s : State) : Nat :=
  if a < 0x4000 then s.romBank0 * 0x4000 + a else s.romBankN * 0x4000 + (a - 0x4000)

/-- The RAM bank number before `Fit` (62_mbc.md R439, R470 to R472). -/
def Mapper.rawRamBank (c : Cart) (m : Mapper) : Nat :=
  match c.variant with
  | .mbc1 => if m.mode then m.bank2.toNat else 0
  | .mbc3 => m.ramBankReg.toNat
  | .mbc5 => m.ramBankReg.toNat
  | .huc1 => m.ramBankReg.toNat
  | .huc3 => m.ramBankReg.toNat
  | .camera => m.ramBankReg.toNat
  | .plain => 0
  | .mbc2 => 0
  | .mmm01 => 0
  | .wisdomTree => 0

/-- `RamBank()`, 0 where there is no whole bank (62_mbc.md R439). -/
def State.ramBank (s : State) : Nat :=
  if s.cartridge.ramBanks = 0 then 0 else fit (s.mapper.rawRamBank s.cartridge) s.cartridge.ramBanks

/-- `RamOffset(a)`; a RAM smaller than a bank repeats through the window (62_mbc.md R439). -/
def State.ramOffset (a : Nat) (s : State) : Nat :=
  if s.cartridge.ramBytes < 0x2000 then (a - 0xA000) % s.cartridge.ramBytes
  else s.ramBank * 0x2000 + (a - 0xA000)

/-- What the window `0xA000-0xBFFF` reaches (62_mbc.md R438, R439, R470 to R473). -/
inductive Window
  /-- Nothing enabled: the open bus. -/
  | closed
  /-- Cartridge RAM that can be read, and written if `writable`. -/
  | ram (writable : Bool)
  /-- The 512 half-bytes of MBC2. -/
  | halfBytes
  /-- The RTC register of that index. -/
  | rtc (i : Nat)
  /-- A peripheral of the `CART.special` handler. -/
  | special
deriving DecidableEq, Repr

/-- `RamPresent` (62_mbc.md R439). -/
def Cart.ramPresent (c : Cart) : Bool := 0 < c.ramBytes

/-- The window of plain cartridge RAM: `closed` where there is none or it cannot be read. -/
def ramWindow (present readable writable : Bool) : Window :=
  if present && readable then .ram writable else .closed

/-- MBC3's selection of an RTC register, on the raw register value (62_mbc.md R451). -/
def Mapper.rtcSelected (c : Cart) (m : Mapper) : Bool :=
  c.hasRtc && 0x08 ≤ m.ramBankReg.toNat && m.ramBankReg.toNat ≤ 0x0C

/-- HuC3's mode value (62_mbc.md R471). Modes `0xB` to `0xE` reach the handler; so does any mode R471 does not
list (log 14). -/
def huc3Window (present : Bool) (mode : Nat) : Window :=
  if mode = 0x0 then ramWindow present true false
  else if mode = 0xA then ramWindow present true true
  else .special

/-- What the cartridge window reaches now (62_mbc.md R438, R470 to R474). -/
def State.window (s : State) : Window :=
  let c := s.cartridge
  let m := s.mapper
  match c.variant with
  | .mbc2 => if m.ramEnable then .halfBytes else .closed
  | .mbc3 =>
    if m.rtcSelected c then (if m.ramEnable then .rtc (m.ramBankReg.toNat - 8) else .closed)
    else ramWindow c.ramPresent m.ramEnable true
  | .huc1 => if m.modeReg = 0x0E then .special else ramWindow c.ramPresent true true
  | .huc3 => huc3Window c.ramPresent m.modeReg.toNat
  | .camera => if m.modeReg = 0x10 then .special else ramWindow c.ramPresent true m.ramEnable
  | .mmm01 => .special
  | .plain => ramWindow c.ramPresent m.ramEnable true
  | .mbc1 => ramWindow c.ramPresent m.ramEnable true
  | .mbc5 => ramWindow c.ramPresent m.ramEnable true
  | .wisdomTree => ramWindow c.ramPresent m.ramEnable true

/-- MBC2's cell of the window: address bits 8:0 only (62_mbc.md R446). -/
def halfByteIndex (a : Nat) : Nat := (a - 0xA000) % 512

/-- The value a `CART.special` read gives: HuC1's infrared reads `0xC0` or `0xC1` (62_mbc.md R470). -/
def Cart.specialValue (c : Cart) (v : Byte) : Byte :=
  match c.variant with
  | .huc1 => 0xC0#8 ||| (v &&& 0x01#8)
  | .huc3 => v
  | .camera => v
  | .mmm01 => v
  | .plain => v
  | .mbc1 => v
  | .mbc2 => v
  | .mbc3 => v
  | .mbc5 => v
  | .wisdomTree => v

/-- The RAM enable register (62_mbc.md R440). -/
def ramEnables (mask v : Byte) : Bool := v &&& mask = 0x0A#8

/-- MBC1's registers (62_mbc.md R433). -/
def Mapper.writeMbc1 (mask : Byte) (a : Nat) (v : Byte) (m : Mapper) : Mapper :=
  if a < 0x2000 then { m with ramEnable := ramEnables mask v }
  else if a < 0x4000 then { m with romBankReg := (v &&& 0x1F#8).setWidth 9 }
  else if a < 0x6000 then { m with bank2 := v.setWidth 2 }
  else { m with mode := v.getLsbD 0 }

/-- MBC2's registers, decoded by address bit 8 (62_mbc.md R445). -/
def Mapper.writeMbc2 (mask : Byte) (a : Nat) (v : Byte) (m : Mapper) : Mapper :=
  if 0x4000 ≤ a then m
  else if a / 256 % 2 = 0 then { m with ramEnable := ramEnables mask v }
  else { m with romBankReg := (v &&& 0x0F#8).setWidth 9 }

/-- MBC3's registers below the latch window (62_mbc.md R433, R450). -/
def Mapper.writeMbc3 (mbc30 : Bool) (mask : Byte) (a : Nat) (v : Byte) (m : Mapper) : Mapper :=
  if a < 0x2000 then { m with ramEnable := ramEnables mask v }
  else if a < 0x4000 then { m with romBankReg := (if mbc30 then v else v &&& 0x7F#8).setWidth 9 }
  else { m with ramBankReg := v.setWidth 4 }

/-- MBC5's registers (62_mbc.md R433, R455). -/
def Mapper.writeMbc5 (rumble : Bool) (mask : Byte) (a : Nat) (v : Byte) (m : Mapper) : Mapper :=
  if a < 0x2000 then { m with ramEnable := ramEnables mask v }
  else if a < 0x3000 then { m with romBankReg := (m.romBankReg &&& 0x100#9) ||| v.setWidth 9 }
  else if a < 0x4000 then
    { m with romBankReg := (m.romBankReg &&& 0x0FF#9) ||| (if v.getLsbD 0 then 0x100#9 else 0x000#9) }
  else if a < 0x6000 then
    { m with ramBankReg := (if rumble then v &&& 0x07#8 else v).setWidth 4 }
  else m

/-- HuC1's and HuC3's registers: a mode value, a ROM bank of 6 or 7 bits, a RAM bank of 2 bits
(62_mbc.md R470, R471). These give no register at `0x6000-0x7FFF`; a write there does nothing. DESIGN CHOICE (log 14),
unsafe. -/
def Mapper.writeHuc (romMask : Byte) (a : Nat) (v : Byte) (m : Mapper) : Mapper :=
  if a < 0x2000 then { m with modeReg := v &&& 0x0F#8 }
  else if a < 0x4000 then { m with romBankReg := (v &&& romMask).setWidth 9 }
  else if a < 0x6000 then { m with ramBankReg := (v &&& 0x03#8).setWidth 4 }
  else m

/-- The Pocket Camera's registers (62_mbc.md R472), which gives none at `0x6000-0x7FFF`; a write there does nothing.
DESIGN CHOICE (log 14), unsafe. -/
def Mapper.writeCamera (mask : Byte) (a : Nat) (v : Byte) (m : Mapper) : Mapper :=
  if a < 0x2000 then { m with ramEnable := ramEnables mask v }
  else if a < 0x4000 then { m with romBankReg := (v &&& 0x3F#8).setWidth 9 }
  else if a < 0x6000 then
    (if v.getLsbD 4 then { m with modeReg := 0x10 } else { m with modeReg := 0x00, ramBankReg := v.setWidth 4 })
  else m

/-- The Wisdom Tree page, from the low bits of the address (62_mbc.md R474), which gives no register at
`0x4000-0x7FFF`; a write there does nothing. DESIGN CHOICE (log 14), unsafe. -/
def Mapper.writeWisdomTree (a : Nat) (m : Mapper) : Mapper :=
  if a < 0x4000 then { m with modeReg := BitVec.ofNat 8 a } else m

/-- MBC3's latch register (62_mbc.md R452). -/
def State.writeLatch (v : Byte) (s : State) : State :=
  let s1 := if s.cartridge.hasRtc ∧ s.mapper.latchPrev = 0x00#8 ∧ v = 0x01#8 then s.rtcLatch else s
  { s1 with mapper := { s1.mapper with latchPrev := v } }

/-- `Mbc.romWrite(a, v, cc)`, by variant (62_mbc.md R433). Of the special variants MMM01 alone hands a register write to
the `CART.special` handler; HuC1, HuC3, the camera and Wisdom Tree decode theirs as R470 to R472 and R474 say, and call
no handler. DESIGN CHOICE (log 14), unsafe. -/
def State.romWrite (a : Word) (v : Byte) (s : State) : State :=
  let c := s.cartridge
  let mask := s.params.ramgMask
  let n := a.toNat
  match c.variant with
  | .plain => if n < 0x2000 then { s with mapper := { s.mapper with ramEnable := ramEnables mask v } } else s
  | .mbc1 => { s with mapper := s.mapper.writeMbc1 mask n v }
  | .mbc2 => { s with mapper := s.mapper.writeMbc2 mask n v }
  | .mbc3 => if n < 0x6000 then { s with mapper := s.mapper.writeMbc3 c.mbc30 mask n v } else s.writeLatch v
  | .mbc5 => { s with mapper := s.mapper.writeMbc5 c.rumble mask n v }
  | .huc1 => { s with mapper := s.mapper.writeHuc 0x3F n v }
  | .huc3 => { s with mapper := s.mapper.writeHuc 0x7F n v }
  | .camera => { s with mapper := s.mapper.writeCamera mask n v }
  | .mmm01 => s.writeSpecial (.cartRegister a v s.cc)
  | .wisdomTree => { s with mapper := s.mapper.writeWisdomTree n }

end Sys2Proof.Machine
end

