-- ==== Sys2Proof/Machine/OamDma.lean ====
section
/-! DEFINITION. The OAM-DMA engine: steps, catch-up, conflict areas (64_oamdma.md). -/

namespace Sys2Proof.Machine

/-- `DecodeSrc(v)` (64_oamdma.md R524). -/
def decodeSrc (cgb : Bool) (v : Byte) : DmaSrc :=
  if v.toNat < 0x80 then .rom
  else if v.toNat < 0xA0 then .vram
  else if v.toNat < 0xC0 then .sram
  else if v.toNat < 0xE0 then .wram
  else if cgb then .invalid else .wram

/-- The VRAM bank in force, 0 on DMG (10_state.md R39). -/
def State.vramBank (s : State) : Nat := if s.cgb then s.io.vbk.toNat else 0

/-- `WramBank()`: 1 on DMG, `max(svbk, 1)` on CGB (20_memory.md R101). -/
def State.wramBank (s : State) : Nat := if s.cgb then max s.io.svbk.toNat 1 else 1

/-- The index into `vram` of an address `0x8000-0x9FFF` (20_memory.md R98). -/
def State.vramIndex (a : Nat) (s : State) : Nat := s.vramBank * 0x2000 + (a - 0x8000)

/-- The index into `wram` of an address `0xC000-0xDFFF` (20_memory.md R101). -/
def State.wramIndex (a : Nat) (s : State) : Nat :=
  if a < 0xD000 then a - 0xC000 else s.wramBank * 0x1000 + (a - 0xD000)

/-- The next `CART.special` answer's value, taken without performing any effect of the handler: the engine's reads
have none (64_oamdma.md R528; log 14). -/
def State.peekSpecial (s : State) : Byte × State :=
  match s.ext.special with
  | [] => (Config.freeSpecialDmaByte (s.dma.last.getD s.cc), s)
  | ans :: r => (ans.value, { s with ext := { s.ext with special := r } })

/-- The engine's read of the cartridge window: what a CPU read would return, but `0xFF` where it is disabled, and
nothing driven (64_oamdma.md R528). -/
def State.dmaWindowByte (a : Nat) (s : State) : Byte × State :=
  match s.window with
  | .closed => (0xFF, s)
  | .ram _ => (s.byte .sram (s.ramOffset a), s)
  | .halfBytes => (0xF0#8 ||| s.byte .sram (halfByteIndex a), s)
  | .rtc i => (s.rtc.latched.read i, s)
  | .special => (s.cartridge.specialValue s.peekSpecial.1, s.peekSpecial.2)

/-- `DmaSourceByte(pos)` (64_oamdma.md R528). -/
def State.dmaSourceByte (pos : Byte) (s : State) : Byte × State :=
  let a := s.io.dma.toNat * 256 + pos.toNat
  match s.dma.src with
  | .rom => (s.byte .rom (s.romIndex a), s)
  | .vram => (s.byte .vram (s.vramIndex a), s)
  | .sram => s.dmaWindowByte a
  | .wram => (s.byte .wram (s.wramIndex (if 0xE000 ≤ a then a - 0x2000 else a)), s)
  | .invalid => (0xFF, s)
  | .off => (0xFF, s)

/-- Where a step moves the engine: the position and the start position after it (64_oamdma.md R525). -/
def OamDma.advance (d : OamDma) : Byte × Byte :=
  if d.pos + 1 = d.startPos then (0, 0) else (d.pos + 1, d.startPos)

/-- `DmaStep()`, due at `t` (64_oamdma.md R525). -/
def State.dmaStep (t : Int) (s : State) : State :=
  let n := s.dma.advance
  let s1 := { s with dma := { s.dma with last := some t, pos := n.1, startPos := n.2 } }
  if n.1.toNat < 0xA0 then
    let q := s1.dmaSourceByte n.1
    q.2.setByte .oam n.1.toNat q.1
  else if n.1 = 0xA0#8 ∧ n.2 = 0x00#8 then
    { s1 with dma := { s1.dma with pos := 0xFE, src := .off, last := none } }
  else s1

/-- `n` steps, each due 4 cycles after the last; an idle engine makes none (64_oamdma.md R526). -/
def State.dmaSteps : Nat → State → State
  | 0, s => s
  | n + 1, s =>
    match s.dma.last with
    | none => s
    | some l => State.dmaSteps n (s.dmaStep (l + 4))

/-- The number of steps due by `t` if the engine stays active (64_oamdma.md R526). -/
def State.dmaDue (t : Int) (s : State) : Nat :=
  match s.dma.last with
  | none => 0
  | some l => ((t - l) / 4).toNat

/-- `DmaCatchUp(t)` (64_oamdma.md R526). -/
def State.dmaCatchUp (t : Int) (s : State) : State :=
  if s.cpu.stopped then s
  else
    let s1 := s.dmaSteps (s.dmaDue t)
    s1.setSlot .oamDma (s1.dma.last.map (· + 4))

/-- `InConflictArea(a)` (64_oamdma.md R530). -/
def inConflictArea (cgb : Bool) (src : DmaSrc) (a : Nat) : Bool :=
  match src with
  | .rom => a < 0x8000 || (0xA000 ≤ a && a < (if cgb then 0xC000 else 0xFE00))
  | .sram => a < 0x8000 || (0xA000 ≤ a && a < (if cgb then 0xC000 else 0xFE00))
  | .wram =>
    if cgb then 0xC000 ≤ a && a < 0xE000 else a < 0x8000 || (0xA000 ≤ a && a < 0xFE00)
  | .vram => 0x8000 ≤ a && a < 0xA000
  | .invalid => a < 0xC000
  | .off => false

/-- The write of `v` to `DMA` (64_oamdma.md R523). -/
def State.writeDma (v : Byte) (s : State) : State :=
  let s1 := { s with
    io := { s.io with dma := v }
    dma := { s.dma with src := decodeSrc s.cgb v, startPos := s.dma.pos + 2, last := some s.cc } }
  s1.setSlot .oamDma (some (s.cc + 4))

end Sys2Proof.Machine
end

