-- ==== Sys2Proof/Machine/TimerUnit.lean ====
section
/-! DEFINITION. The divider and the timer (60_exceptions.md section 5). -/

namespace Sys2Proof.Machine

/-- `Period(tac[1:0])` in `cc` units (60_exceptions.md R360). -/
def timerPeriod (tac : BitVec 3) : Int :=
  match tac.toNat % 4 with
  | 0 => 1024
  | 1 => 16
  | 2 => 64
  | _ => 256

/-- The timer enable, `tac[2]` (60_exceptions.md R360). -/
def timerEnabled (tac : BitVec 3) : Bool := tac.getLsbD 2

/-- `DIV` at the cycle `t`: `((t − divBase) >> 8) & 0xFF` (60_exceptions.md R361). -/
def Timer.div (tm : Timer) (t : Int) : Byte := BitVec.ofInt 8 ((t - tm.divBase) / 256)

/-- The number of ticks in `(timaLast, t]` (60_exceptions.md R367). -/
def Timer.ticks (tm : Timer) (t : Int) : Nat :=
  ((t - tm.divBase) / timerPeriod tm.tac - (tm.timaLast - tm.divBase) / timerPeriod tm.tac).toNat

/-- `tima` after `n` ticks and whether it overflowed: at `0xFF` it takes `tma` and requests (60_exceptions.md R367). -/
def timaAfter (tma : Byte) : Nat → Byte → Byte × Bool
  | 0, v => (v, false)
  | n + 1, v =>
    let r := timaAfter tma n v
    if r.1 = 0xFF#8 then (tma, true) else (r.1 + 1, r.2)

/-- The cycle of the tick at which `tima` next overflows (60_exceptions.md R368). -/
def Timer.overflowAt (tm : Timer) : Int :=
  tm.divBase + ((tm.timaLast - tm.divBase) / timerPeriod tm.tac + (0x100 - (tm.tima.toNat : Int))) * timerPeriod tm.tac

/-- What `deadline[TIMA]` is set to (60_exceptions.md R368). -/
def State.timaDeadline (s : State) : Option Int :=
  if timerEnabled s.timer.tac = false ∨ s.cpu.stopped = true then none else some s.timer.overflowAt

/-- `TimaReschedule()` (60_exceptions.md R368). -/
def State.timaReschedule (s : State) : State := s.setSlot .tima s.timaDeadline

/-- The ticks of `TimerCatchUp(t)`: count, and request on overflow (60_exceptions.md R367). -/
def State.timerCount (t : Int) (s : State) : State :=
  if timerEnabled s.timer.tac then
    let r := timaAfter s.timer.tma (s.timer.ticks t) s.timer.tima
    let s1 := { s with timer := { s.timer with tima := r.1 } }
    if r.2 then s1.requestTimerIrq else s1
  else s

/-- `TimerCatchUp(t)` (60_exceptions.md R367). -/
def State.timerCatchUp (t : Int) (s : State) : State :=
  if s.cpu.stopped = true ∨ t ≤ s.timer.timaLast then s
  else
    let s1 := s.timerCount t
    { s1 with timer := { s1.timer with timaLast := t } }.timaReschedule

/-- `DIV` write (60_exceptions.md R362). -/
def State.writeDiv (s : State) : State :=
  let s1 := s.timerCatchUp s.cc
  { s1 with timer := { s1.timer with divBase := s.cc } }.timaReschedule

/-- `TIMA` write (60_exceptions.md R364). -/
def State.writeTima (v : Byte) (s : State) : State :=
  let s1 := s.timerCatchUp s.cc
  { s1 with timer := { s1.timer with tima := v } }.timaReschedule

/-- `TMA` write (60_exceptions.md R365). -/
def State.writeTma (v : Byte) (s : State) : State :=
  let s1 := s.timerCatchUp s.cc
  { s1 with timer := { s1.timer with tma := v } }

/-- `TAC` write (60_exceptions.md R366). -/
def State.writeTac (v : Byte) (s : State) : State :=
  let s1 := s.timerCatchUp s.cc
  { s1 with timer := { s1.timer with tac := v.setWidth 3 } }.timaReschedule

end Sys2Proof.Machine
end

