-- ==== Sys2Proof/Machine/Bus.lean ====
section
/-! DEFINITION. The memory bus: the address decoder, the open bus, the regions and the I/O window
(20_memory.md). Every read and write is total (R80, R118). -/

namespace Sys2Proof.Machine

/-- The regions of the address map (20_memory.md R90, R92). -/
inductive Region
  | romLow
  | romHigh
  | vram
  | cart
  | wram
  | echo
  | oam
  | oamx
  | io
  | hram
  | ie
deriving DecidableEq, Repr

/-- The region of an address (20_memory.md R90, R92). -/
def region (a : Word) : Region :=
  if a.toNat < 0x4000 then .romLow
  else if a.toNat < 0x8000 then .romHigh
  else if a.toNat < 0xA000 then .vram
  else if a.toNat < 0xC000 then .cart
  else if a.toNat < 0xE000 then .wram
  else if a.toNat < 0xFE00 then .echo
  else if a.toNat < 0xFEA0 then .oam
  else if a.toNat < 0xFF00 then .oamx
  else if a.toNat < 0xFF80 then .io
  else if a.toNat < 0xFFFF then .hram
  else .ie

/-- `Drive(v, cc)` (20_memory.md R93). -/
def State.drive (v : Byte) (s : State) : State := { s with bus := { value := v, time := s.cc } }

/-- `OpenBus(cc)` (20_memory.md R94). -/
def State.openBus (s : State) : Byte := if s.cc < s.bus.time + s.params.pullupDelay then s.bus.value else 0xFF

/-- A read of a ROM window (20_memory.md R90, R95, R96). -/
def State.romRead (a : Word) (s : State) : Byte × State :=
  let v := s.byte .rom (s.romIndex a.toNat)
  (v, s.drive v)

/-- `VramRead(a, cc)` (20_memory.md R98). -/
def State.vramRead (a : Word) (s : State) : Byte × State :=
  (if s.askVram.1 then s.byte .vram (s.vramIndex a.toNat) else 0xFF, s.askVram.2)

/-- `VramWrite(a, v, cc)` (20_memory.md R98). -/
def State.vramWrite (a : Word) (v : Byte) (s : State) : State :=
  if s.askVram.1 then s.askVram.2.setByte .vram (s.vramIndex a.toNat) v else s.askVram.2

/-- `CartWindowRead(a, cc)` (62_mbc.md R438). An access handed to a `CART.special` handler always drives the open bus:
whether the handler's device is enabled is not the spec's to say (R473, 20_memory.md R93). DESIGN CHOICE (log 14),
unsafe. -/
def State.cartWindowRead (a : Word) (s : State) : Byte × State :=
  match s.window with
  | .closed => (s.openBus, s)
  | .ram _ => let v := s.byte .sram (s.ramOffset a.toNat); (v, s.drive v)
  | .halfBytes => let v := 0xF0#8 ||| s.byte .sram (halfByteIndex a.toNat); (v, s.drive v)
  | .rtc i => let v := s.rtc.latched.read i; (v, s.drive v)
  | .special =>
    let q := s.callSpecial (.cartRead a s.cc)
    let v := s.cartridge.specialValue q.1
    (v, q.2.drive v)

/-- `CartWindowWrite(a, v, cc)` (62_mbc.md R439); a handler's window is always driven, as in a read (log 14). -/
def State.cartWindowWrite (a : Word) (v : Byte) (s : State) : State :=
  match s.window with
  | .closed => s
  | .ram writable => if writable then (s.setByte .sram (s.ramOffset a.toNat) v).drive v else s
  | .halfBytes => (s.setByte .sram (halfByteIndex a.toNat) (v &&& 0x0F#8)).drive v
  | .rtc i => (s.rtcWrite i v).drive v
  | .special => (s.callSpecial (.cartWrite a v s.cc)).2.drive v

/-- Whether the OAM page is free of the engine's copy phase (20_memory.md R103, 64_oamdma.md R533). -/
def State.oamFree (s : State) : Bool := 0xA0 ≤ s.dma.pos.toNat

/-- A read of the OAM page at index `i` of `oam` or `oamx` (20_memory.md R103, R105). -/
def State.oamPageRead (st : Store) (i : Nat) (s : State) : Byte × State :=
  (if s.askOam.1 && s.oamFree then s.byte st i else 0xFF, s.askOam.2)

/-- A write of the OAM page; `allowed` is false for `oamx` on DMG (20_memory.md R103, R105). -/
def State.oamPageWrite (st : Store) (i : Nat) (allowed : Bool) (v : Byte) (s : State) : State :=
  if s.askOam.1 && s.oamFree && allowed then s.askOam.2.setByte st i v else s.askOam.2

/-- `KEY1` as read (10_state.md R38). -/
def State.key1 (s : State) : Byte :=
  0x7E#8 ||| (if s.cpu.doubleSpeed then 0x80#8 else 0x00#8) ||| (if s.io.prepare then 0x01#8 else 0x00#8)

/-- The read of `0xFF00`: the poll, then the handler (20_memory.md R106, R113). -/
def State.joypadRead (a : Word) (s : State) : Byte × State := s.poll.2.extIoRead a

/-- The catch-up of an `IF` access: the timer, then the external devices (60_exceptions.md R344). -/
def State.ifCatchUp (s : State) : State := ((s.timerCatchUp s.cc).extIoRead 0xFF0F).2

/-- `IoRead(a, cc)` (20_memory.md R106, R112). A read of `DIV` first catches the timer up, as R114 and R84 say, where
60_exceptions.md R361 says that it changes no state. DESIGN CHOICE (log 15), unsafe. -/
def State.ioRead (a : Word) (s : State) : Byte × State :=
  match a.toNat with
  | 0xFF00 => s.joypadRead a
  | 0xFF04 => ((s.timerCatchUp s.cc).timer.div s.cc, s.timerCatchUp s.cc)
  | 0xFF05 => ((s.timerCatchUp s.cc).timer.tima, s.timerCatchUp s.cc)
  | 0xFF06 => (s.timer.tma, s)
  | 0xFF07 => (0xF8#8 ||| s.timer.tac.setWidth 8, s)
  | 0xFF0F => (0xE0#8 ||| s.ifCatchUp.io.ifr.setWidth 8, s.ifCatchUp)
  | 0xFF46 => (s.io.dma, s)
  | 0xFF4D => (if s.cgb then s.key1 else 0xFF, s)
  | 0xFF4F => (if s.cgb then 0xFE#8 ||| s.io.vbk.setWidth 8 else 0xFF, s)
  | 0xFF70 => (if s.cgb then 0xF8#8 ||| s.io.svbk.setWidth 8 else 0xFF, s)
  | _ => s.extIoRead a

/-- The write of `KEY1` (10_state.md R38). -/
def State.writeKey1 (v : Byte) (s : State) : State :=
  if s.cgb then { s with io := { s.io with prepare := v.getLsbD 0 } } else s

/-- The write of `VBK` (10_state.md R39). -/
def State.writeVbk (v : Byte) (s : State) : State :=
  if s.cgb then { s with io := { s.io with vbk := v.setWidth 1 } } else s

/-- The write of `SVBK` (10_state.md R40). -/
def State.writeSvbk (v : Byte) (s : State) : State :=
  if s.cgb then { s with io := { s.io with svbk := v.setWidth 3 } } else s

/-- `IoWrite(a, v, cc)` (20_memory.md R107, R112). -/
def State.ioWrite (a : Word) (v : Byte) (s : State) : State :=
  match a.toNat with
  | 0xFF04 => s.writeDiv
  | 0xFF05 => s.writeTima v
  | 0xFF06 => s.writeTma v
  | 0xFF07 => s.writeTac v
  | 0xFF0F => s.ifCatchUp.setIf (v.setWidth 5)
  | 0xFF46 => s.writeDma v
  | 0xFF4D => s.writeKey1 v
  | 0xFF4F => s.writeVbk v
  | 0xFF70 => s.writeSvbk v
  | _ => s.extIoWrite a v

/-- The decoder's read, the engine aside (20_memory.md R90). -/
def State.decodedRead (a : Word) (s : State) : Byte × State :=
  match region a with
  | .romLow => s.romRead a
  | .romHigh => s.romRead a
  | .vram => s.vramRead a
  | .cart => s.cartWindowRead a
  | .wram => (s.byte .wram (s.wramIndex a.toNat), s)
  | .echo => (s.byte .wram (s.wramIndex (a.toNat - 0x2000)), s)
  | .oam => s.oamPageRead .oam (a.toNat - 0xFE00)
  | .oamx => s.oamPageRead .oamx (a.toNat - 0xFEA0)
  | .io => s.ioRead a
  | .hram => (s.byte .hram (a.toNat - 0xFF80), s)
  | .ie => (s.io.ie, s)

/-- The decoder's write, the engine aside (20_memory.md R91). -/
def State.decodedWrite (a : Word) (v : Byte) (s : State) : State :=
  match region a with
  | .romLow => (s.drive v).romWrite a v
  | .romHigh => (s.drive v).romWrite a v
  | .vram => s.vramWrite a v
  | .cart => s.cartWindowWrite a v
  | .wram => s.setByte .wram (s.wramIndex a.toNat) v
  | .echo => s.setByte .wram (s.wramIndex (a.toNat - 0x2000)) v
  | .oam => s.oamPageWrite .oam (a.toNat - 0xFE00) true v
  | .oamx => s.oamPageWrite .oamx (a.toNat - 0xFEA0) s.cgb v
  | .io => s.ioWrite a v
  | .hram => s.setByte .hram (a.toNat - 0xFF80) v
  | .ie => s.setIe v

/-- Whether an access at `a` first catches the active engine up (20_memory.md R90). -/
def State.meetsEngine (a : Word) (s : State) : Bool := a.toNat < 0xFF80 && s.dma.last.isSome

/-- The catch-up of an access at `a` (20_memory.md R90). -/
def State.busCatchUp (a : Word) (s : State) : State := if s.meetsEngine a then s.dmaCatchUp s.cc else s

/-- Whether an access at `a` is diverted to the byte in flight (20_memory.md R90, R91). -/
def State.diverted (a : Word) (s : State) : Bool :=
  s.meetsEngine a && !(s.busCatchUp a).oamFree &&
    inConflictArea s.cgb (s.busCatchUp a).dma.src a.toNat

/-- `BusRead(a, cc)` (20_memory.md R90, 64_oamdma.md R531). -/
def State.busRead (a : Word) (s : State) : Byte × State :=
  let s1 := s.busCatchUp a
  if s.diverted a then (s1.byte .oam s1.dma.pos.toNat, s1) else s1.decodedRead a

/-- `BusWrite(a, v, cc)` (20_memory.md R91, 64_oamdma.md R532). -/
def State.busWrite (a : Word) (v : Byte) (s : State) : State :=
  let s1 := s.busCatchUp a
  if s.diverted a then s1.setByte .oam s1.dma.pos.toNat v else s1.decodedWrite a v

end Sys2Proof.Machine
end

