-- ==== Sys2Proof/Machine/Ops.lean ====
section
/-! DEFINITION. The pseudocode primitives over memory, stack and program counter (00_scope.md R10), the opcode fetch,
and the machine's one trap: entry by interrupt dispatch, and the return from it (60_exceptions.md R350, R353). -/

namespace Sys2Proof.Machine

/-- `MemRead(addr, 1)`: the bus sees the stamp the M-cycle began with (00_scope.md R10). -/
def State.memRead (a : Word) (s : State) : Byte × State := ((s.busRead a).1, (s.busRead a).2.addCc 4)

/-- `MemWrite(addr, 1, v)` (00_scope.md R10). -/
def State.memWrite (a : Word) (v : Byte) (s : State) : State := (s.busWrite a v).addCc 4

/-- `Tick()`: an internal M-cycle (00_scope.md R10). -/
def State.tick (s : State) : State := s.addCc 4

/-- `Fetch8()` (00_scope.md R10). -/
def State.fetch8 (s : State) : Byte × State :=
  let q := s.memRead s.cpu.pc
  (q.1, q.2.setPc (q.2.cpu.pc + 1))

/-- `Fetch8()` `n` times. -/
def State.fetchBytes : Nat → State → List Byte × State
  | 0, s => ([], s)
  | n + 1, s =>
    let q := s.fetch8
    let r := State.fetchBytes n q.2
    (q.1 :: r.1, r.2)

/-- `Push16(v)`: the high byte at the higher address (00_scope.md R10, 20_memory.md R81). -/
def State.push16 (v : Word) (s : State) : State :=
  let s1 := s.setSp (s.cpu.sp - 1)
  let s2 := s1.memWrite s1.cpu.sp (hiByte v)
  let s3 := s2.setSp (s2.cpu.sp - 1)
  s3.memWrite s3.cpu.sp (loByte v)

/-- One byte of `Pop16()`. -/
def State.popByte (s : State) : Byte × State :=
  let q := s.memRead s.cpu.sp
  (q.1, q.2.setSp (q.2.cpu.sp + 1))

/-- `Pop16()`: the low byte first, from the lower address (00_scope.md R10, 20_memory.md R81). -/
def State.pop16 (s : State) : Word × State :=
  let lo := s.popByte
  let hi := lo.2.popByte
  (join hi.1 lo.1, hi.2)

/-- The opcode fetch, the first M-cycle of every instruction (30_encoding.md R141). -/
def State.fetchOpcode (s : State) : Byte × State :=
  if s.cpu.prefetched then
    (s.cpu.latch, { s with cc := s.cc + 4, cpu := { s.cpu with prefetched := false } })
  else s.fetch8

/-- Fetch an instruction: the opcode, then the bytes its form takes (30_encoding.md R140, R141, R150). Every
instruction fetches its immediates before its other accesses, so its meaning starts where this ends. -/
def State.fetchInstr (s : State) : List Byte × State :=
  let q := s.fetchOpcode
  let r := q.2.fetchBytes (operandCount q.1)
  (q.1 :: r.1, r.2)

/-- Undo `HALT`'s prefetch at the start of a dispatch (60_exceptions.md R350). -/
def State.undoPrefetch (s : State) : State :=
  if s.cpu.prefetched then
    { s with cpu := { s.cpu with prefetched := false, pc := s.cpu.pc - 1 } }
  else s

/-- The vector of the interrupt bit `b` (60_exceptions.md R351). -/
def vector (b : Nat) : Word := BitVec.ofNat 16 (0x0040 + 8 * b)

/-- `IF` with bit `b` cleared. -/
def clearBit (b : Nat) (v : BitVec 5) : BitVec 5 := v &&& ~~~(1#5 <<< b)

/-- The choice of the vector: the lowest bit sampled, or `0x0000` when none is left (60_exceptions.md R349, R350). -/
def State.enterVector (pend : BitVec 5) (s : State) : State :=
  if pend = 0 then s.setPc 0x0000
  else { s with io := { s.io with ifr := clearBit (lowestBit pend) s.io.ifr } }.setPc (vector (lowestBit pend))

/-- The push of the high byte of `pc`, after which the pending set is sampled (60_exceptions.md R350). -/
def State.dispatchHigh (s : State) : State :=
  let s1 := (s.undoPrefetch.setIme false).tick.tick
  let s2 := s1.setSp (s1.cpu.sp - 1)
  let s3 := s2.memWrite s2.cpu.sp (hiByte s2.cpu.pc)
  s3.timerCatchUp s3.cc

/-- `InterruptDispatch()`: trap entry (60_exceptions.md R350). It saves `pc` on the stack, clears `ime` and the served
`IF` bit, and goes to the fixed vector; nothing else is saved. -/
def State.interruptDispatch (s : State) : State :=
  let s1 := s.dispatchHigh
  let s2 := s1.setSp (s1.cpu.sp - 1)
  let s3 := s2.memWrite s2.cpu.sp (loByte s2.cpu.pc)
  (s3.enterVector s1.pending).tick.intRecompute

/-- The return from an interrupt: `pc` is popped and `ime` set with no delay; nothing else is restored
(45_control.md R309, 60_exceptions.md R353). -/
def State.interruptReturn (s : State) : State :=
  let q := s.pop16
  let s1 := (q.2.setPc q.1).tick
  { s1 with cpu := { s1.cpu with ime := true, minIntTime := s1.cc } }.intRecompute

end Sys2Proof.Machine
end

