-- ==== Sys2Proof/Machine/Operands.lean ====
section
/-! DEFINITION. The operand forms (30_encoding.md R144, R147, R150; 40_load8.md R189). -/

namespace Sys2Proof.Machine

/-- What a meaning answers. -/
abbrev Answer := Host.Outcome State Fault Refusal

/-- Read the operand `r[z]`: a register, or `MemRead(HL, 1)` (30_encoding.md R144). -/
def State.readOperand (r : Operand) (s : State) : Byte × State :=
  match r with
  | .reg x => (s.reg8 x, s)
  | .indHL => s.memRead (s.reg16 .hl)

/-- Write the operand `r[z]`: a register, or `MemWrite(HL, 1, v)` (30_encoding.md R144). -/
def State.writeOperand (r : Operand) (v : Byte) (s : State) : State :=
  match r with
  | .reg x => s.setReg8 x v
  | .indHL => s.memWrite (s.reg16 .hl) v

/-- `x[y] <- MemRead(a, 1)`. -/
def State.loadReg (r : Reg8) (a : Word) (s : State) : State := (s.memRead a).2.setReg8 r (s.memRead a).1

/-- `MemWrite(a, 1, x[z])`. -/
def State.storeReg (a : Word) (r : Reg8) (s : State) : State := s.memWrite a (s.reg8 r)

/-- The step of `HL` after `(HL+)` and `(HL-)` (40_load8.md R179 to R182). -/
def State.stepHL (d : Word) (s : State) : State := s.setReg16 .hl (s.reg16 .hl + d)

/-- A condition of 30_encoding.md R147. -/
inductive Cond
  | nz
  | z
  | nc
  | c
deriving DecidableEq, Repr

/-- Whether a condition holds (30_encoding.md R147). -/
def State.holds (k : Cond) (s : State) : Bool :=
  match k with
  | .nz => !s.flagZ
  | .z => s.flagZ
  | .nc => !s.flagC
  | .c => s.flagC

/-- The jump to `a`: `pc <- a; Tick()` (45_control.md R300). -/
def State.jump (a : Word) (s : State) : State := (s.setPc a).tick

/-- The call of `a`: `Tick(); Push16(pc); pc <- a` (45_control.md R305, R312). -/
def State.callTo (a : Word) (s : State) : State := (s.tick.push16 s.cpu.pc).setPc a

/-- The return: `a <- Pop16(); pc <- a; Tick()` (45_control.md R307). -/
def State.returnTo (s : State) : State := (s.pop16.2.setPc s.pop16.1).tick

/-- The target of `JR`: the displacement is added to the address of the byte after the instruction
(45_control.md R303). -/
def State.relative (e : Byte) (s : State) : Word := s.cpu.pc + sext16 e

end Sys2Proof.Machine
end

