-- ==== Sys2Proof/Machine/Alu16.lean ====
section
/-! DEFINITION. 16-bit arithmetic (43_alu16.md). -/

namespace Sys2Proof.Machine

/-- `INC rp` and `DEC rp`: no flag changes (R261, R262). -/
def State.addPair (r : Reg16) (d : Word) (s : State) : State := (s.setReg16 r (s.reg16 r + d)).tick

/-- `ADD SP,e8` (R263). -/
def State.addSp (e : Byte) (s : State) : State := ((s.spFlags e).setSp (s.cpu.sp + sext16 e)).tick.tick

/-- `INC BC` (R261). -/
def execIncBC (s : State) : Answer := .next (s.addPair .bc 1)

/-- `ADD HL,BC` (R260). -/
def execAddHLBC (s : State) : Answer := .next ((s.addHL (s.reg16 .bc)).tick)

/-- `DEC BC` (R262). -/
def execDecBC (s : State) : Answer := .next (s.addPair .bc (-1))

/-- `INC DE` (R261). -/
def execIncDE (s : State) : Answer := .next (s.addPair .de 1)

/-- `ADD HL,DE` (R260). -/
def execAddHLDE (s : State) : Answer := .next ((s.addHL (s.reg16 .de)).tick)

/-- `DEC DE` (R262). -/
def execDecDE (s : State) : Answer := .next (s.addPair .de (-1))

/-- `INC HL` (R261). -/
def execIncHL (s : State) : Answer := .next (s.addPair .hl 1)

/-- `ADD HL,HL` (R260). -/
def execAddHLHL (s : State) : Answer := .next ((s.addHL (s.reg16 .hl)).tick)

/-- `DEC HL` (R262). -/
def execDecHL (s : State) : Answer := .next (s.addPair .hl (-1))

/-- `INC SP` (R261). -/
def execIncSP (s : State) : Answer := .next (s.addPair .sp 1)

/-- `ADD HL,SP` (R260). -/
def execAddHLSP (s : State) : Answer := .next ((s.addHL (s.reg16 .sp)).tick)

/-- `DEC SP` (R262). -/
def execDecSP (s : State) : Answer := .next (s.addPair .sp (-1))

/-- `ADD SP,e8` (R263). -/
def execAddSPImm (e : Byte) (s : State) : Answer := .next (s.addSp e)

end Sys2Proof.Machine
end

