-- ==== Sys2Proof/Machine/Alu8.lean ====
section
/-! DEFINITION. 8-bit arithmetic and logic (42_alu8.md). -/

namespace Sys2Proof.Machine

/-- `INC r` (R229). -/
def State.incReg (r : Reg8) (s : State) : State := (s.setReg8 r (s.reg8 r + 1)).incFlags (s.reg8 r)

/-- `DEC r` (R231). -/
def State.decReg (r : Reg8) (s : State) : State := (s.setReg8 r (s.reg8 r - 1)).decFlags (s.reg8 r)

/-- `INC (HL)`: a read M-cycle, then a write M-cycle (R230). -/
def State.incMem (s : State) : State :=
  let q := s.memRead (s.reg16 .hl)
  (q.2.memWrite (s.reg16 .hl) (q.1 + 1)).incFlags q.1

/-- `DEC (HL)` (R232). -/
def State.decMem (s : State) : State :=
  let q := s.memRead (s.reg16 .hl)
  (q.2.memWrite (s.reg16 .hl) (q.1 - 1)).decFlags q.1

/-- `ADD A,v` (R221). -/
def State.aluAdd (v : Byte) (s : State) : State := s.addA v false

/-- `ADC A,v` (R222). -/
def State.aluAdc (v : Byte) (s : State) : State := s.addA v s.flagC

/-- `SUB v` (R223). -/
def State.aluSub (v : Byte) (s : State) : State := s.subA v false

/-- `SBC A,v` (R224). -/
def State.aluSbc (v : Byte) (s : State) : State := s.subA v s.flagC

/-- `AND v` (R225). -/
def State.aluAnd (v : Byte) (s : State) : State := s.logicA (s.cpu.a &&& v) true

/-- `XOR v` (R226). -/
def State.aluXor (v : Byte) (s : State) : State := s.logicA (s.cpu.a ^^^ v) false

/-- `OR v` (R227). -/
def State.aluOr (v : Byte) (s : State) : State := s.logicA (s.cpu.a ||| v) false

/-- `CP v` (R228). -/
def State.aluCp (v : Byte) (s : State) : State := s.compareA v false

/-- The source operand `(HL)` of an accumulator operation (R220). -/
def State.withMem (f : Byte → State → State) (s : State) : State :=
  f (s.memRead (s.reg16 .hl)).1 (s.memRead (s.reg16 .hl)).2

/-- `INC B` (R229). -/
def execIncB (s : State) : Answer := .next (s.incReg .b)

/-- `DEC B` (R231). -/
def execDecB (s : State) : Answer := .next (s.decReg .b)

/-- `INC C` (R229). -/
def execIncC (s : State) : Answer := .next (s.incReg .c)

/-- `DEC C` (R231). -/
def execDecC (s : State) : Answer := .next (s.decReg .c)

/-- `INC D` (R229). -/
def execIncD (s : State) : Answer := .next (s.incReg .d)

/-- `DEC D` (R231). -/
def execDecD (s : State) : Answer := .next (s.decReg .d)

/-- `INC E` (R229). -/
def execIncE (s : State) : Answer := .next (s.incReg .e)

/-- `DEC E` (R231). -/
def execDecE (s : State) : Answer := .next (s.decReg .e)

/-- `INC H` (R229). -/
def execIncH (s : State) : Answer := .next (s.incReg .h)

/-- `DEC H` (R231). -/
def execDecH (s : State) : Answer := .next (s.decReg .h)

/-- `DAA` (R233). -/
def execDaa (s : State) : Answer := .next s.daa

/-- `INC L` (R229). -/
def execIncL (s : State) : Answer := .next (s.incReg .l)

/-- `DEC L` (R231). -/
def execDecL (s : State) : Answer := .next (s.decReg .l)

/-- `CPL` (R234). -/
def execCpl (s : State) : Answer := .next ((s.setReg8 .a (~~~s.cpu.a)).setFlags s.flagZ true true s.flagC)

/-- `INC (HL)` (R230). -/
def execIncIndHL (s : State) : Answer := .next s.incMem

/-- `DEC (HL)` (R232). -/
def execDecIndHL (s : State) : Answer := .next s.decMem

/-- `SCF` (R235). -/
def execScf (s : State) : Answer := .next (s.setFlags s.flagZ false false true)

/-- `INC A` (R229). -/
def execIncA (s : State) : Answer := .next (s.incReg .a)

/-- `DEC A` (R231). -/
def execDecA (s : State) : Answer := .next (s.decReg .a)

/-- `CCF` (R236). -/
def execCcf (s : State) : Answer := .next (s.setFlags s.flagZ false false (!s.flagC))

/-- `ADD A,B` (R221). -/
def execAddAB (s : State) : Answer := .next (s.aluAdd (s.reg8 .b))

/-- `ADD A,C` (R221). -/
def execAddAC (s : State) : Answer := .next (s.aluAdd (s.reg8 .c))

/-- `ADD A,D` (R221). -/
def execAddAD (s : State) : Answer := .next (s.aluAdd (s.reg8 .d))

/-- `ADD A,E` (R221). -/
def execAddAE (s : State) : Answer := .next (s.aluAdd (s.reg8 .e))

/-- `ADD A,H` (R221). -/
def execAddAH (s : State) : Answer := .next (s.aluAdd (s.reg8 .h))

/-- `ADD A,L` (R221). -/
def execAddAL (s : State) : Answer := .next (s.aluAdd (s.reg8 .l))

/-- `ADD A,(HL)` (R221). -/
def execAddAIndHL (s : State) : Answer := .next (s.withMem State.aluAdd)

/-- `ADD A,A` (R221). -/
def execAddAA (s : State) : Answer := .next (s.aluAdd (s.reg8 .a))

/-- `ADC A,B` (R222). -/
def execAdcAB (s : State) : Answer := .next (s.aluAdc (s.reg8 .b))

/-- `ADC A,C` (R222). -/
def execAdcAC (s : State) : Answer := .next (s.aluAdc (s.reg8 .c))

/-- `ADC A,D` (R222). -/
def execAdcAD (s : State) : Answer := .next (s.aluAdc (s.reg8 .d))

/-- `ADC A,E` (R222). -/
def execAdcAE (s : State) : Answer := .next (s.aluAdc (s.reg8 .e))

/-- `ADC A,H` (R222). -/
def execAdcAH (s : State) : Answer := .next (s.aluAdc (s.reg8 .h))

/-- `ADC A,L` (R222). -/
def execAdcAL (s : State) : Answer := .next (s.aluAdc (s.reg8 .l))

/-- `ADC A,(HL)` (R222). -/
def execAdcAIndHL (s : State) : Answer := .next (s.withMem State.aluAdc)

/-- `ADC A,A` (R222). -/
def execAdcAA (s : State) : Answer := .next (s.aluAdc (s.reg8 .a))

/-- `SUB B` (R223). -/
def execSubB (s : State) : Answer := .next (s.aluSub (s.reg8 .b))

/-- `SUB C` (R223). -/
def execSubC (s : State) : Answer := .next (s.aluSub (s.reg8 .c))

/-- `SUB D` (R223). -/
def execSubD (s : State) : Answer := .next (s.aluSub (s.reg8 .d))

/-- `SUB E` (R223). -/
def execSubE (s : State) : Answer := .next (s.aluSub (s.reg8 .e))

/-- `SUB H` (R223). -/
def execSubH (s : State) : Answer := .next (s.aluSub (s.reg8 .h))

/-- `SUB L` (R223). -/
def execSubL (s : State) : Answer := .next (s.aluSub (s.reg8 .l))

/-- `SUB (HL)` (R223). -/
def execSubIndHL (s : State) : Answer := .next (s.withMem State.aluSub)

/-- `SUB A` (R223). -/
def execSubA (s : State) : Answer := .next (s.aluSub (s.reg8 .a))

/-- `SBC A,B` (R224). -/
def execSbcAB (s : State) : Answer := .next (s.aluSbc (s.reg8 .b))

/-- `SBC A,C` (R224). -/
def execSbcAC (s : State) : Answer := .next (s.aluSbc (s.reg8 .c))

/-- `SBC A,D` (R224). -/
def execSbcAD (s : State) : Answer := .next (s.aluSbc (s.reg8 .d))

/-- `SBC A,E` (R224). -/
def execSbcAE (s : State) : Answer := .next (s.aluSbc (s.reg8 .e))

/-- `SBC A,H` (R224). -/
def execSbcAH (s : State) : Answer := .next (s.aluSbc (s.reg8 .h))

/-- `SBC A,L` (R224). -/
def execSbcAL (s : State) : Answer := .next (s.aluSbc (s.reg8 .l))

/-- `SBC A,(HL)` (R224). -/
def execSbcAIndHL (s : State) : Answer := .next (s.withMem State.aluSbc)

/-- `SBC A,A` (R224). -/
def execSbcAA (s : State) : Answer := .next (s.aluSbc (s.reg8 .a))

/-- `AND B` (R225). -/
def execAndB (s : State) : Answer := .next (s.aluAnd (s.reg8 .b))

/-- `AND C` (R225). -/
def execAndC (s : State) : Answer := .next (s.aluAnd (s.reg8 .c))

/-- `AND D` (R225). -/
def execAndD (s : State) : Answer := .next (s.aluAnd (s.reg8 .d))

/-- `AND E` (R225). -/
def execAndE (s : State) : Answer := .next (s.aluAnd (s.reg8 .e))

/-- `AND H` (R225). -/
def execAndH (s : State) : Answer := .next (s.aluAnd (s.reg8 .h))

/-- `AND L` (R225). -/
def execAndL (s : State) : Answer := .next (s.aluAnd (s.reg8 .l))

/-- `AND (HL)` (R225). -/
def execAndIndHL (s : State) : Answer := .next (s.withMem State.aluAnd)

/-- `AND A` (R225). -/
def execAndA (s : State) : Answer := .next (s.aluAnd (s.reg8 .a))

/-- `XOR B` (R226). -/
def execXorB (s : State) : Answer := .next (s.aluXor (s.reg8 .b))

/-- `XOR C` (R226). -/
def execXorC (s : State) : Answer := .next (s.aluXor (s.reg8 .c))

/-- `XOR D` (R226). -/
def execXorD (s : State) : Answer := .next (s.aluXor (s.reg8 .d))

/-- `XOR E` (R226). -/
def execXorE (s : State) : Answer := .next (s.aluXor (s.reg8 .e))

/-- `XOR H` (R226). -/
def execXorH (s : State) : Answer := .next (s.aluXor (s.reg8 .h))

/-- `XOR L` (R226). -/
def execXorL (s : State) : Answer := .next (s.aluXor (s.reg8 .l))

/-- `XOR (HL)` (R226). -/
def execXorIndHL (s : State) : Answer := .next (s.withMem State.aluXor)

/-- `XOR A` (R226). -/
def execXorA (s : State) : Answer := .next (s.aluXor (s.reg8 .a))

/-- `OR B` (R227). -/
def execOrB (s : State) : Answer := .next (s.aluOr (s.reg8 .b))

/-- `OR C` (R227). -/
def execOrC (s : State) : Answer := .next (s.aluOr (s.reg8 .c))

/-- `OR D` (R227). -/
def execOrD (s : State) : Answer := .next (s.aluOr (s.reg8 .d))

/-- `OR E` (R227). -/
def execOrE (s : State) : Answer := .next (s.aluOr (s.reg8 .e))

/-- `OR H` (R227). -/
def execOrH (s : State) : Answer := .next (s.aluOr (s.reg8 .h))

/-- `OR L` (R227). -/
def execOrL (s : State) : Answer := .next (s.aluOr (s.reg8 .l))

/-- `OR (HL)` (R227). -/
def execOrIndHL (s : State) : Answer := .next (s.withMem State.aluOr)

/-- `OR A` (R227). -/
def execOrA (s : State) : Answer := .next (s.aluOr (s.reg8 .a))

/-- `CP B` (R228). -/
def execCpB (s : State) : Answer := .next (s.aluCp (s.reg8 .b))

/-- `CP C` (R228). -/
def execCpC (s : State) : Answer := .next (s.aluCp (s.reg8 .c))

/-- `CP D` (R228). -/
def execCpD (s : State) : Answer := .next (s.aluCp (s.reg8 .d))

/-- `CP E` (R228). -/
def execCpE (s : State) : Answer := .next (s.aluCp (s.reg8 .e))

/-- `CP H` (R228). -/
def execCpH (s : State) : Answer := .next (s.aluCp (s.reg8 .h))

/-- `CP L` (R228). -/
def execCpL (s : State) : Answer := .next (s.aluCp (s.reg8 .l))

/-- `CP (HL)` (R228). -/
def execCpIndHL (s : State) : Answer := .next (s.withMem State.aluCp)

/-- `CP A` (R228). -/
def execCpA (s : State) : Answer := .next (s.aluCp (s.reg8 .a))

/-- `ADD A,d8` (R221). -/
def execAddAImm (v : Byte) (s : State) : Answer := .next (s.aluAdd v)

/-- `ADC A,d8` (R222). -/
def execAdcAImm (v : Byte) (s : State) : Answer := .next (s.aluAdc v)

/-- `SUB d8` (R223). -/
def execSubImm (v : Byte) (s : State) : Answer := .next (s.aluSub v)

/-- `SBC A,d8` (R224). -/
def execSbcAImm (v : Byte) (s : State) : Answer := .next (s.aluSbc v)

/-- `AND d8` (R225). -/
def execAndImm (v : Byte) (s : State) : Answer := .next (s.aluAnd v)

/-- `XOR d8` (R226). -/
def execXorImm (v : Byte) (s : State) : Answer := .next (s.aluXor v)

/-- `OR d8` (R227). -/
def execOrImm (v : Byte) (s : State) : Answer := .next (s.aluOr v)

/-- `CP d8` (R228). -/
def execCpImm (v : Byte) (s : State) : Answer := .next (s.aluCp v)

end Sys2Proof.Machine
end

