-- ==== Sys2Proof/Machine/Control.lean ====
section
/-! DEFINITION. Jumps, calls and returns (45_control.md). No instruction here changes `F`. -/

namespace Sys2Proof.Machine

/-- `JP cond,a16`, after the immediates (R301). -/
def State.jumpIf (k : Cond) (a : Word) (s : State) : State := if s.holds k then s.jump a else s

/-- `JR cond,e8`, after the immediate (R304). -/
def State.relativeIf (k : Cond) (e : Byte) (s : State) : State := if s.holds k then s.jump (s.relative e) else s

/-- `CALL cond,a16`, after the immediates (R306). -/
def State.callIf (k : Cond) (a : Word) (s : State) : State := if s.holds k then s.callTo a else s

/-- `RET cond`: the condition is evaluated during an internal M-cycle spent on both paths (R308). -/
def State.returnIf (k : Cond) (s : State) : State := if s.holds k then s.tick.returnTo else s.tick

/-- `JR e8` (R303). -/
def execJr (e : Byte) (s : State) : Answer := .next (s.jump (s.relative e))

/-- `JR NZ,e8` (R304). -/
def execJrNZ (e : Byte) (s : State) : Answer := .next (s.relativeIf .nz e)

/-- `JR Z,e8` (R304). -/
def execJrZ (e : Byte) (s : State) : Answer := .next (s.relativeIf .z e)

/-- `JR NC,e8` (R304). -/
def execJrNC (e : Byte) (s : State) : Answer := .next (s.relativeIf .nc e)

/-- `JR C,e8` (R304). -/
def execJrC (e : Byte) (s : State) : Answer := .next (s.relativeIf .c e)

/-- `RET NZ` (R308). -/
def execRetNZ (s : State) : Answer := .next (s.returnIf .nz)

/-- `JP NZ,a16` (R301). -/
def execJpNZ (a : Word) (s : State) : Answer := .next (s.jumpIf .nz a)

/-- `JP a16` (R300). -/
def execJp (a : Word) (s : State) : Answer := .next (s.jump a)

/-- `CALL NZ,a16` (R306). -/
def execCallNZ (a : Word) (s : State) : Answer := .next (s.callIf .nz a)

/-- `RST 0x00` (R312). -/
def execRst00 (s : State) : Answer := .next (s.callTo 0x0000)

/-- `RET Z` (R308). -/
def execRetZ (s : State) : Answer := .next (s.returnIf .z)

/-- `RET` (R307). -/
def execRet (s : State) : Answer := .next s.returnTo

/-- `JP Z,a16` (R301). -/
def execJpZ (a : Word) (s : State) : Answer := .next (s.jumpIf .z a)

/-- `CALL Z,a16` (R306). -/
def execCallZ (a : Word) (s : State) : Answer := .next (s.callIf .z a)

/-- `CALL a16` (R305). -/
def execCall (a : Word) (s : State) : Answer := .next (s.callTo a)

/-- `RST 0x08` (R312). -/
def execRst08 (s : State) : Answer := .next (s.callTo 0x0008)

/-- `RET NC` (R308). -/
def execRetNC (s : State) : Answer := .next (s.returnIf .nc)

/-- `JP NC,a16` (R301). -/
def execJpNC (a : Word) (s : State) : Answer := .next (s.jumpIf .nc a)

/-- `CALL NC,a16` (R306). -/
def execCallNC (a : Word) (s : State) : Answer := .next (s.callIf .nc a)

/-- `RST 0x10` (R312). -/
def execRst10 (s : State) : Answer := .next (s.callTo 0x0010)

/-- `RET C` (R308). -/
def execRetC (s : State) : Answer := .next (s.returnIf .c)

/-- `RETI` (R309). -/
def execReti (s : State) : Answer := .next s.interruptReturn

/-- `JP C,a16` (R301). -/
def execJpC (a : Word) (s : State) : Answer := .next (s.jumpIf .c a)

/-- `CALL C,a16` (R306). -/
def execCallC (a : Word) (s : State) : Answer := .next (s.callIf .c a)

/-- `RST 0x18` (R312). -/
def execRst18 (s : State) : Answer := .next (s.callTo 0x0018)

/-- `RST 0x20` (R312). -/
def execRst20 (s : State) : Answer := .next (s.callTo 0x0020)

/-- `JP HL` (R302). -/
def execJpHL (s : State) : Answer := .next (s.setPc (s.reg16 .hl))

/-- `RST 0x28` (R312). -/
def execRst28 (s : State) : Answer := .next (s.callTo 0x0028)

/-- `RST 0x30` (R312). -/
def execRst30 (s : State) : Answer := .next (s.callTo 0x0030)

/-- `RST 0x38` (R312). -/
def execRst38 (s : State) : Answer := .next (s.callTo 0x0038)

end Sys2Proof.Machine
end

