-- ==== Sys2Proof/Machine/Load16.lean ====
section
/-! DEFINITION. 16-bit loads and stack operations (41_load16_stack.md). -/

namespace Sys2Proof.Machine

/-- `LD (a16),SP`: the low byte first (R201). -/
def State.storeSp (a : Word) (s : State) : State :=
  let s1 := s.memWrite a (loByte s.cpu.sp)
  s1.memWrite (a + 1) (hiByte s1.cpu.sp)

/-- `LD HL,SP+e8` (R203). -/
def State.spPlus (e : Byte) (s : State) : State :=
  ((s.spFlags e).setReg16 .hl (s.cpu.sp + sext16 e)).tick

/-- `PUSH rp2` (R208). -/
def State.pushPair (r : Reg16) (s : State) : State := s.tick.push16 (s.reg16 r)

/-- `POP rp2`; for `AF` the low nibble of `F` stays 0 (R209). -/
def State.popPair (r : Reg16) (s : State) : State := s.pop16.2.setReg16 r s.pop16.1

/-- `LD BC,d16` (R200). -/
def execLdBCImm (v : Word) (s : State) : Answer := .next (s.setReg16 .bc v)

/-- `LD (a16),SP` (R201). -/
def execLdIndA16SP (a : Word) (s : State) : Answer := .next (s.storeSp a)

/-- `LD DE,d16` (R200). -/
def execLdDEImm (v : Word) (s : State) : Answer := .next (s.setReg16 .de v)

/-- `LD HL,d16` (R200). -/
def execLdHLImm (v : Word) (s : State) : Answer := .next (s.setReg16 .hl v)

/-- `LD SP,d16` (R200). -/
def execLdSPImm (v : Word) (s : State) : Answer := .next (s.setReg16 .sp v)

/-- `POP BC` (R209). -/
def execPopBC (s : State) : Answer := .next (s.popPair .bc)

/-- `PUSH BC` (R208). -/
def execPushBC (s : State) : Answer := .next (s.pushPair .bc)

/-- `POP DE` (R209). -/
def execPopDE (s : State) : Answer := .next (s.popPair .de)

/-- `PUSH DE` (R208). -/
def execPushDE (s : State) : Answer := .next (s.pushPair .de)

/-- `POP HL` (R209). -/
def execPopHL (s : State) : Answer := .next (s.popPair .hl)

/-- `PUSH HL` (R208). -/
def execPushHL (s : State) : Answer := .next (s.pushPair .hl)

/-- `POP AF` (R209). -/
def execPopAF (s : State) : Answer := .next (s.popPair .af)

/-- `PUSH AF` (R208). -/
def execPushAF (s : State) : Answer := .next (s.pushPair .af)

/-- `LD HL,SP+e8` (R203). -/
def execLdHLSPImm (e : Byte) (s : State) : Answer := .next (s.spPlus e)

/-- `LD SP,HL` (R202). -/
def execLdSPHL (s : State) : Answer := .next ((s.setSp (s.reg16 .hl)).tick)

end Sys2Proof.Machine
end

