-- ==== Sys2Proof/Machine/Load8.lean ====
section
/-! DEFINITION. 8-bit loads and stores (40_load8.md). No instruction here changes `F`. -/

namespace Sys2Proof.Machine

/-- `LD r,(HL)`: the address is the old `HL` (R171). -/
def State.loadHL (r : Reg8) (s : State) : State := s.loadReg r (s.reg16 .hl)

/-- `LD (HL),r` (R172). -/
def State.storeHL (r : Reg8) (s : State) : State := s.storeReg (s.reg16 .hl) r

/-- `LD r,r'` (R170). -/
def State.copyReg (dst src : Reg8) (s : State) : State := s.setReg8 dst (s.reg8 src)

/-- `LD (BC),A` (R177). -/
def execLdIndBCA (s : State) : Answer := .next (s.storeReg (s.reg16 .bc) .a)

/-- `LD B,d8` (R173). -/
def execLdBImm (v : Byte) (s : State) : Answer := .next (s.setReg8 .b v)

/-- `LD A,(BC)` (R175). -/
def execLdAIndBC (s : State) : Answer := .next (s.loadReg .a (s.reg16 .bc))

/-- `LD C,d8` (R173). -/
def execLdCImm (v : Byte) (s : State) : Answer := .next (s.setReg8 .c v)

/-- `LD (DE),A` (R178). -/
def execLdIndDEA (s : State) : Answer := .next (s.storeReg (s.reg16 .de) .a)

/-- `LD D,d8` (R173). -/
def execLdDImm (v : Byte) (s : State) : Answer := .next (s.setReg8 .d v)

/-- `LD A,(DE)` (R176). -/
def execLdAIndDE (s : State) : Answer := .next (s.loadReg .a (s.reg16 .de))

/-- `LD E,d8` (R173). -/
def execLdEImm (v : Byte) (s : State) : Answer := .next (s.setReg8 .e v)

/-- `LD (HL+),A` (R181). -/
def execLdIndHLIncA (s : State) : Answer := .next ((s.storeHL .a).stepHL 1)

/-- `LD H,d8` (R173). -/
def execLdHImm (v : Byte) (s : State) : Answer := .next (s.setReg8 .h v)

/-- `LD A,(HL+)` (R179). -/
def execLdAIndHLInc (s : State) : Answer := .next ((s.loadHL .a).stepHL 1)

/-- `LD L,d8` (R173). -/
def execLdLImm (v : Byte) (s : State) : Answer := .next (s.setReg8 .l v)

/-- `LD (HL-),A` (R182). -/
def execLdIndHLDecA (s : State) : Answer := .next ((s.storeHL .a).stepHL (-1))

/-- `LD (HL),d8` (R174). -/
def execLdIndHLImm (v : Byte) (s : State) : Answer := .next (s.memWrite (s.reg16 .hl) v)

/-- `LD A,(HL-)` (R180). -/
def execLdAIndHLDec (s : State) : Answer := .next ((s.loadHL .a).stepHL (-1))

/-- `LD A,d8` (R173). -/
def execLdAImm (v : Byte) (s : State) : Answer := .next (s.setReg8 .a v)

/-- `LD B,B` (R170). -/
def execLdBB (s : State) : Answer := .next (s.copyReg .b .b)

/-- `LD B,C` (R170). -/
def execLdBC (s : State) : Answer := .next (s.copyReg .b .c)

/-- `LD B,D` (R170). -/
def execLdBD (s : State) : Answer := .next (s.copyReg .b .d)

/-- `LD B,E` (R170). -/
def execLdBE (s : State) : Answer := .next (s.copyReg .b .e)

/-- `LD B,H` (R170). -/
def execLdBH (s : State) : Answer := .next (s.copyReg .b .h)

/-- `LD B,L` (R170). -/
def execLdBL (s : State) : Answer := .next (s.copyReg .b .l)

/-- `LD B,(HL)` (R171). -/
def execLdBIndHL (s : State) : Answer := .next (s.loadHL .b)

/-- `LD B,A` (R170). -/
def execLdBA (s : State) : Answer := .next (s.copyReg .b .a)

/-- `LD C,B` (R170). -/
def execLdCB (s : State) : Answer := .next (s.copyReg .c .b)

/-- `LD C,C` (R170). -/
def execLdCC (s : State) : Answer := .next (s.copyReg .c .c)

/-- `LD C,D` (R170). -/
def execLdCD (s : State) : Answer := .next (s.copyReg .c .d)

/-- `LD C,E` (R170). -/
def execLdCE (s : State) : Answer := .next (s.copyReg .c .e)

/-- `LD C,H` (R170). -/
def execLdCH (s : State) : Answer := .next (s.copyReg .c .h)

/-- `LD C,L` (R170). -/
def execLdCL (s : State) : Answer := .next (s.copyReg .c .l)

/-- `LD C,(HL)` (R171). -/
def execLdCIndHL (s : State) : Answer := .next (s.loadHL .c)

/-- `LD C,A` (R170). -/
def execLdCA (s : State) : Answer := .next (s.copyReg .c .a)

/-- `LD D,B` (R170). -/
def execLdDB (s : State) : Answer := .next (s.copyReg .d .b)

/-- `LD D,C` (R170). -/
def execLdDC (s : State) : Answer := .next (s.copyReg .d .c)

/-- `LD D,D` (R170). -/
def execLdDD (s : State) : Answer := .next (s.copyReg .d .d)

/-- `LD D,E` (R170). -/
def execLdDE (s : State) : Answer := .next (s.copyReg .d .e)

/-- `LD D,H` (R170). -/
def execLdDH (s : State) : Answer := .next (s.copyReg .d .h)

/-- `LD D,L` (R170). -/
def execLdDL (s : State) : Answer := .next (s.copyReg .d .l)

/-- `LD D,(HL)` (R171). -/
def execLdDIndHL (s : State) : Answer := .next (s.loadHL .d)

/-- `LD D,A` (R170). -/
def execLdDA (s : State) : Answer := .next (s.copyReg .d .a)

/-- `LD E,B` (R170). -/
def execLdEB (s : State) : Answer := .next (s.copyReg .e .b)

/-- `LD E,C` (R170). -/
def execLdEC (s : State) : Answer := .next (s.copyReg .e .c)

/-- `LD E,D` (R170). -/
def execLdED (s : State) : Answer := .next (s.copyReg .e .d)

/-- `LD E,E` (R170). -/
def execLdEE (s : State) : Answer := .next (s.copyReg .e .e)

/-- `LD E,H` (R170). -/
def execLdEH (s : State) : Answer := .next (s.copyReg .e .h)

/-- `LD E,L` (R170). -/
def execLdEL (s : State) : Answer := .next (s.copyReg .e .l)

/-- `LD E,(HL)` (R171). -/
def execLdEIndHL (s : State) : Answer := .next (s.loadHL .e)

/-- `LD E,A` (R170). -/
def execLdEA (s : State) : Answer := .next (s.copyReg .e .a)

/-- `LD H,B` (R170). -/
def execLdHB (s : State) : Answer := .next (s.copyReg .h .b)

/-- `LD H,C` (R170). -/
def execLdHC (s : State) : Answer := .next (s.copyReg .h .c)

/-- `LD H,D` (R170). -/
def execLdHD (s : State) : Answer := .next (s.copyReg .h .d)

/-- `LD H,E` (R170). -/
def execLdHE (s : State) : Answer := .next (s.copyReg .h .e)

/-- `LD H,H` (R170). -/
def execLdHH (s : State) : Answer := .next (s.copyReg .h .h)

/-- `LD H,L` (R170). -/
def execLdHL (s : State) : Answer := .next (s.copyReg .h .l)

/-- `LD H,(HL)` (R171). -/
def execLdHIndHL (s : State) : Answer := .next (s.loadHL .h)

/-- `LD H,A` (R170). -/
def execLdHA (s : State) : Answer := .next (s.copyReg .h .a)

/-- `LD L,B` (R170). -/
def execLdLB (s : State) : Answer := .next (s.copyReg .l .b)

/-- `LD L,C` (R170). -/
def execLdLC (s : State) : Answer := .next (s.copyReg .l .c)

/-- `LD L,D` (R170). -/
def execLdLD (s : State) : Answer := .next (s.copyReg .l .d)

/-- `LD L,E` (R170). -/
def execLdLE (s : State) : Answer := .next (s.copyReg .l .e)

/-- `LD L,H` (R170). -/
def execLdLH (s : State) : Answer := .next (s.copyReg .l .h)

/-- `LD L,L` (R170). -/
def execLdLL (s : State) : Answer := .next (s.copyReg .l .l)

/-- `LD L,(HL)` (R171). -/
def execLdLIndHL (s : State) : Answer := .next (s.loadHL .l)

/-- `LD L,A` (R170). -/
def execLdLA (s : State) : Answer := .next (s.copyReg .l .a)

/-- `LD (HL),B` (R172). -/
def execLdIndHLB (s : State) : Answer := .next (s.storeHL .b)

/-- `LD (HL),C` (R172). -/
def execLdIndHLC (s : State) : Answer := .next (s.storeHL .c)

/-- `LD (HL),D` (R172). -/
def execLdIndHLD (s : State) : Answer := .next (s.storeHL .d)

/-- `LD (HL),E` (R172). -/
def execLdIndHLE (s : State) : Answer := .next (s.storeHL .e)

/-- `LD (HL),H` (R172). -/
def execLdIndHLH (s : State) : Answer := .next (s.storeHL .h)

/-- `LD (HL),L` (R172). -/
def execLdIndHLL (s : State) : Answer := .next (s.storeHL .l)

/-- `LD (HL),A` (R172). -/
def execLdIndHLA (s : State) : Answer := .next (s.storeHL .a)

/-- `LD A,B` (R170). -/
def execLdAB (s : State) : Answer := .next (s.copyReg .a .b)

/-- `LD A,C` (R170). -/
def execLdAC (s : State) : Answer := .next (s.copyReg .a .c)

/-- `LD A,D` (R170). -/
def execLdAD (s : State) : Answer := .next (s.copyReg .a .d)

/-- `LD A,E` (R170). -/
def execLdAE (s : State) : Answer := .next (s.copyReg .a .e)

/-- `LD A,H` (R170). -/
def execLdAH (s : State) : Answer := .next (s.copyReg .a .h)

/-- `LD A,L` (R170). -/
def execLdAL (s : State) : Answer := .next (s.copyReg .a .l)

/-- `LD A,(HL)` (R171). -/
def execLdAIndHL (s : State) : Answer := .next (s.loadHL .a)

/-- `LD A,A` (R170). -/
def execLdAA (s : State) : Answer := .next (s.copyReg .a .a)

/-- `LDH (a8),A` (R186). -/
def execLdhIndA8A (v : Byte) (s : State) : Answer := .next (s.storeReg (highPage v) .a)

/-- `LDH (C),A` (R188). -/
def execLdhIndCA (s : State) : Answer := .next (s.storeReg (highPage s.cpu.c) .a)

/-- `LD (a16),A` (R184). -/
def execLdIndA16A (a : Word) (s : State) : Answer := .next (s.storeReg a .a)

/-- `LDH A,(a8)` (R185). -/
def execLdhAIndA8 (v : Byte) (s : State) : Answer := .next (s.loadReg .a (highPage v))

/-- `LDH A,(C)` (R187). -/
def execLdhAIndC (s : State) : Answer := .next (s.loadReg .a (highPage s.cpu.c))

/-- `LD A,(a16)` (R183). -/
def execLdAIndA16 (a : Word) (s : State) : Answer := .next (s.loadReg .a a)

end Sys2Proof.Machine
end

