-- ==== Sys2Proof/Machine/RotateShiftBit.lean ====
section
/-! DEFINITION. Rotates, shifts and bit operations (44_rotate_shift_bit.md). -/

namespace Sys2Proof.Machine

/-- A rotate or shift of an operand, with its flags `Z 0 0 C` (R274 to R282). -/
def State.rotate (f : Byte → Bool → Byte × Bool) (r : Operand) (s : State) : State :=
  let q := s.readOperand r
  let w := f q.1 s.flagC
  (q.2.writeOperand r w.1).setFlags (w.1 = 0) false false w.2

/-- A rotate of `A` without the prefix: `Z` is cleared (R270 to R273). -/
def State.rotateA (f : Byte → Bool → Byte × Bool) (s : State) : State :=
  let w := f s.cpu.a s.flagC
  (s.setReg8 .a w.1).setFlags false false false w.2

/-- `BIT b,r`: nothing is written back (R283). -/
def State.testBit (b : Nat) (r : Operand) (s : State) : State :=
  (s.readOperand r).2.bitFlags b (s.readOperand r).1

/-- `RES b,r` and `SET b,r`: the `(HL)` form always writes (R284, R285). -/
def State.changeBit (f : Byte → Byte) (r : Operand) (s : State) : State :=
  (s.readOperand r).2.writeOperand r (f (s.readOperand r).1)

/-- `RLCA` (R270). -/
def execRlca (s : State) : Answer := .next (s.rotateA rotlc)

/-- `RRCA` (R271). -/
def execRrca (s : State) : Answer := .next (s.rotateA rotrc)

/-- `RLA` (R272). -/
def execRla (s : State) : Answer := .next (s.rotateA rotl)

/-- `RRA` (R273). -/
def execRra (s : State) : Answer := .next (s.rotateA rotr)

/-- `RLC r` (R275). -/
def execRlc (r : Operand) (s : State) : Answer := .next (s.rotate rotlc r)

/-- `RRC r` (R276). -/
def execRrc (r : Operand) (s : State) : Answer := .next (s.rotate rotrc r)

/-- `RL r` (R277). -/
def execRl (r : Operand) (s : State) : Answer := .next (s.rotate rotl r)

/-- `RR r` (R278). -/
def execRr (r : Operand) (s : State) : Answer := .next (s.rotate rotr r)

/-- `SLA r` (R279). -/
def execSla (r : Operand) (s : State) : Answer := .next (s.rotate shiftLeft r)

/-- `SRA r` (R280). -/
def execSra (r : Operand) (s : State) : Answer := .next (s.rotate shiftRightArith r)

/-- `SWAP r` (R281). -/
def execSwap (r : Operand) (s : State) : Answer := .next (s.rotate swapNibbles r)

/-- `SRL r` (R282). -/
def execSrl (r : Operand) (s : State) : Answer := .next (s.rotate shiftRight r)

/-- `BIT 0,r` (R283). -/
def execBit0 (r : Operand) (s : State) : Answer := .next (s.testBit 0 r)

/-- `BIT 1,r` (R283). -/
def execBit1 (r : Operand) (s : State) : Answer := .next (s.testBit 1 r)

/-- `BIT 2,r` (R283). -/
def execBit2 (r : Operand) (s : State) : Answer := .next (s.testBit 2 r)

/-- `BIT 3,r` (R283). -/
def execBit3 (r : Operand) (s : State) : Answer := .next (s.testBit 3 r)

/-- `BIT 4,r` (R283). -/
def execBit4 (r : Operand) (s : State) : Answer := .next (s.testBit 4 r)

/-- `BIT 5,r` (R283). -/
def execBit5 (r : Operand) (s : State) : Answer := .next (s.testBit 5 r)

/-- `BIT 6,r` (R283). -/
def execBit6 (r : Operand) (s : State) : Answer := .next (s.testBit 6 r)

/-- `BIT 7,r` (R283). -/
def execBit7 (r : Operand) (s : State) : Answer := .next (s.testBit 7 r)

/-- `RES 0,r` (R284). -/
def execRes0 (r : Operand) (s : State) : Answer := .next (s.changeBit (resetBit 0) r)

/-- `RES 1,r` (R284). -/
def execRes1 (r : Operand) (s : State) : Answer := .next (s.changeBit (resetBit 1) r)

/-- `RES 2,r` (R284). -/
def execRes2 (r : Operand) (s : State) : Answer := .next (s.changeBit (resetBit 2) r)

/-- `RES 3,r` (R284). -/
def execRes3 (r : Operand) (s : State) : Answer := .next (s.changeBit (resetBit 3) r)

/-- `RES 4,r` (R284). -/
def execRes4 (r : Operand) (s : State) : Answer := .next (s.changeBit (resetBit 4) r)

/-- `RES 5,r` (R284). -/
def execRes5 (r : Operand) (s : State) : Answer := .next (s.changeBit (resetBit 5) r)

/-- `RES 6,r` (R284). -/
def execRes6 (r : Operand) (s : State) : Answer := .next (s.changeBit (resetBit 6) r)

/-- `RES 7,r` (R284). -/
def execRes7 (r : Operand) (s : State) : Answer := .next (s.changeBit (resetBit 7) r)

/-- `SET 0,r` (R285). -/
def execSet0 (r : Operand) (s : State) : Answer := .next (s.changeBit (setBit 0) r)

/-- `SET 1,r` (R285). -/
def execSet1 (r : Operand) (s : State) : Answer := .next (s.changeBit (setBit 1) r)

/-- `SET 2,r` (R285). -/
def execSet2 (r : Operand) (s : State) : Answer := .next (s.changeBit (setBit 2) r)

/-- `SET 3,r` (R285). -/
def execSet3 (r : Operand) (s : State) : Answer := .next (s.changeBit (setBit 3) r)

/-- `SET 4,r` (R285). -/
def execSet4 (r : Operand) (s : State) : Answer := .next (s.changeBit (setBit 4) r)

/-- `SET 5,r` (R285). -/
def execSet5 (r : Operand) (s : State) : Answer := .next (s.changeBit (setBit 5) r)

/-- `SET 6,r` (R285). -/
def execSet6 (r : Operand) (s : State) : Answer := .next (s.changeBit (setBit 6) r)

/-- `SET 7,r` (R285). -/
def execSet7 (r : Operand) (s : State) : Answer := .next (s.changeBit (setBit 7) r)

end Sys2Proof.Machine
end

