-- ==== Sys2Proof/Machine/System.lean ====
section
/-! DEFINITION. System instructions (46_system.md). -/

namespace Sys2Proof.Machine

/-- Whether an enabled interrupt is pending, after catch-up (R322). -/
def State.interruptWaiting (s : State) : Bool := s.pending != 0

/-- `HALT` with a pending interrupt and `ime` false: the halt bug (R322 case 1). -/
def State.haltBug (s : State) : State :=
  let q := s.busRead s.cpu.pc
  { q.2 with cpu := { q.2.cpu with latch := q.1, prefetched := true } }

/-- `HALT` with a pending interrupt and `ime` true: it is addressed again (R322 case 2). -/
def State.haltAgain (s : State) : State := s.setPc (s.cpu.pc - 1)

/-- `HALT` with no pending interrupt: the next opcode is prefetched and the CPU halts (R322 case 3). -/
def State.haltProper (s : State) : State :=
  let q := s.busRead s.cpu.pc
  { q.2 with cpu := { q.2.cpu with latch := q.1, pc := q.2.cpu.pc + 1, prefetched := true, halted := true } }.intRecompute

/-- `HALT` (R322). -/
def State.halt (s : State) : State :=
  let s1 := s.timerCatchUp s.cc
  if s1.interruptWaiting && !s1.cpu.ime then s1.haltBug
  else if s1.interruptWaiting then s1.haltAgain
  else s1.haltProper

/-- The pause after a speed switch, in `cc` units: longer when the new speed is double (R323). -/
def speedSwitchPause (doubleSpeed : Bool) : Int := 0x20000 + (if doubleSpeed then 8 else 0)

/-- The speed-switch form of `STOP` (R323). -/
def State.switchSpeed (s : State) : State :=
  let s1 := s.rtcAdvance s.cc
  let s2 := { s1 with
    cpu := { s1.cpu with doubleSpeed := !s1.cpu.doubleSpeed, halted := true }
    io := { s1.io with prepare := false } }
  (s2.setSlot .unhalt (some (s2.cc + speedSwitchPause s2.cpu.doubleSpeed))).intRecompute

/-- The stop proper (R323). -/
def State.stopProper (s : State) : State :=
  let s1 := s.dmaCatchUp s.cc
  ({ s1 with cpu := { s1.cpu with halted := true, stopped := true, stopStart := s1.cc } }.setSlot .unhalt none).intRecompute

/-- `STOP`, from the skip of its second byte on (R323). -/
def State.stop (s : State) : State :=
  let s1 := (s.setPc (s.cpu.pc + 1)).writeDiv
  if s1.cgb && s1.io.prepare then s1.switchSpeed else s1.stopProper

/-- `DI` (R321). -/
def State.disableInterrupts (s : State) : State := (s.setIme false).intRecompute

/-- `EI`: `ime` is set at once, and the earliest dispatch is one instruction away (R324). -/
def State.enableInterrupts (s : State) : State :=
  { s with cpu := { s.cpu with ime := true, minIntTime := s.cc + 1 } }.intRecompute

/-- An undefined opcode: the CPU halts with every interrupt disabled (R327). -/
def State.lockUp (s : State) : State :=
  ({ s with cpu := { s.cpu with halted := true }, io := { s.io with ie := 0x00 } }.setSlot .unhalt none).intRecompute

/-- The rotate or shift the field `y` selects (30_encoding.md R149). -/
def rotOp (y : Nat) : Byte → Bool → Byte × Bool :=
  match y with
  | 0 => rotlc
  | 1 => rotrc
  | 2 => rotl
  | 3 => rotr
  | 4 => shiftLeft
  | 5 => shiftRightArith
  | 6 => swapNibbles
  | _ => shiftRight

/-- The prefixed instruction a second byte selects (30_encoding.md R155, 44_rotate_shift_bit.md R274). -/
def State.prefixed (op2 : Byte) (s : State) : State :=
  let r := operandOf (fieldZ op2)
  match fieldX op2 with
  | 0 => s.rotate (rotOp (fieldY op2)) r
  | 1 => s.testBit (fieldY op2) r
  | 2 => s.changeBit (resetBit (fieldY op2)) r
  | _ => s.changeBit (setBit (fieldY op2)) r

/-- `NOP` (R320). -/
def execNop (s : State) : Answer := .next s

/-- `STOP` (R323). -/
def execStop (s : State) : Answer := .next s.stop

/-- `HALT` (R322). -/
def execHalt (s : State) : Answer := .next s.halt

/-- `0xCB` (R325). -/
def execPrefixCb (s : State) : Answer := .next (s.fetch8.2.prefixed s.fetch8.1)

/-- `0xD3` (R327). -/
def execUndefD3 (s : State) : Answer := .next s.lockUp

/-- `0xDB` (R327). -/
def execUndefDB (s : State) : Answer := .next s.lockUp

/-- `0xDD` (R327). -/
def execUndefDD (s : State) : Answer := .next s.lockUp

/-- `0xE3` (R327). -/
def execUndefE3 (s : State) : Answer := .next s.lockUp

/-- `0xE4` (R327). -/
def execUndefE4 (s : State) : Answer := .next s.lockUp

/-- `0xEB` (R327). -/
def execUndefEB (s : State) : Answer := .next s.lockUp

/-- `0xEC` (R327). -/
def execUndefEC (s : State) : Answer := .next s.lockUp

/-- `0xED` (R327). -/
def execUndefED (s : State) : Answer := .next s.lockUp

/-- `DI` (R321). -/
def execDi (s : State) : Answer := .next s.disableInterrupts

/-- `0xF4` (R327). -/
def execUndefF4 (s : State) : Answer := .next s.lockUp

/-- `EI` (R324). -/
def execEi (s : State) : Answer := .next s.enableInterrupts

/-- `0xFC` (R327). -/
def execUndefFC (s : State) : Answer := .next s.lockUp

/-- `0xFD` (R327). -/
def execUndefFD (s : State) : Answer := .next s.lockUp

end Sys2Proof.Machine
end

