-- ==== Sys2Proof/Machine/Loader.lean ====
section
/-! DEFINITION. Cartridge load and machine reset, the host's calls outside a run (62_mbc.md R431, R432, R434;
70_reset_and_hazards.md R550). -/

namespace Sys2Proof.Machine

/-- What a type byte says of a cartridge (62_mbc.md R432). -/
structure CartType where
  variant : Variant
  ram : Bool
  battery : Bool
  rtc : Bool
  rumble : Bool
deriving DecidableEq, Repr

/-- The cartridge type table; a byte it does not list is a load failure (62_mbc.md R432). -/
def cartType (t : Byte) : Option CartType :=
  match t.toNat with
  | 0x00 => some ⟨.plain, false, false, false, false⟩
  | 0x01 => some ⟨.mbc1, false, false, false, false⟩
  | 0x02 => some ⟨.mbc1, true, false, false, false⟩
  | 0x03 => some ⟨.mbc1, true, true, false, false⟩
  | 0x05 => some ⟨.mbc2, false, false, false, false⟩
  | 0x06 => some ⟨.mbc2, false, true, false, false⟩
  | 0x08 => some ⟨.plain, true, false, false, false⟩
  | 0x09 => some ⟨.plain, true, true, false, false⟩
  | 0x0B => some ⟨.mmm01, false, false, false, false⟩
  | 0x0C => some ⟨.mmm01, true, false, false, false⟩
  | 0x0D => some ⟨.mmm01, true, true, false, false⟩
  | 0x0F => some ⟨.mbc3, false, true, true, false⟩
  | 0x10 => some ⟨.mbc3, true, true, true, false⟩
  | 0x11 => some ⟨.mbc3, false, false, false, false⟩
  | 0x12 => some ⟨.mbc3, true, false, false, false⟩
  | 0x13 => some ⟨.mbc3, true, true, false, false⟩
  | 0x19 => some ⟨.mbc5, false, false, false, false⟩
  | 0x1A => some ⟨.mbc5, true, false, false, false⟩
  | 0x1B => some ⟨.mbc5, true, true, false, false⟩
  | 0x1C => some ⟨.mbc5, false, false, false, true⟩
  | 0x1D => some ⟨.mbc5, true, false, false, true⟩
  | 0x1E => some ⟨.mbc5, true, true, false, true⟩
  | 0xFC => some ⟨.camera, true, true, false, false⟩
  | 0xFE => some ⟨.huc3, true, true, true, false⟩
  | 0xFF => some ⟨.huc1, true, true, false, false⟩
  | _ => none

/-- The ROM size code: `2 << c` banks for `c` in 0..8 (62_mbc.md R434); another code is a load failure (log 13). -/
def romBanksOf (c : Byte) : Option Nat := if c.toNat ≤ 8 then some (2 * 2 ^ c.toNat) else none

/-- The RAM size code: whole banks and bytes (62_mbc.md R434); another code is a load failure (log 13). -/
def ramSizeOf (c : Byte) : Option (Nat × Nat) :=
  match c.toNat with
  | 0 => some (0, 0)
  | 1 => some (0, 2048)
  | 2 => some (1, 0x2000)
  | 3 => some (4, 4 * 0x2000)
  | 4 => some (16, 16 * 0x2000)
  | 5 => some (8, 8 * 0x2000)
  | _ => none

/-- The RAM of a cartridge whose type has RAM; none for another type (62_mbc.md R432, R434; log 13). -/
def CartType.ramSize (t : CartType) (code : Byte) : Option (Nat × Nat) := if t.ram then ramSizeOf code else some (0, 0)

/-- The variant after the loader's heuristics (62_mbc.md R474). -/
def CartType.finalVariant (t : CartType) (romBanks : Nat) (wisdomTree : Bool) : Variant :=
  if wisdomTree ∧ t.variant = .plain ∧ t.ram = false ∧ 2 < romBanks then .wisdomTree else t.variant

/-- The bytes of an image file; those past its length do not count. -/
def RomFile.image (f : RomFile) : Memory := Memory.ofCells (f.bytes.filter (fun c => c.1 < f.size))

/-- The end of the header (70_reset_and_hazards.md R554). -/
def headerEnd : Nat := 0x0150

/-- `CART` from a type, the sizes and what the loader found (62_mbc.md R432, R434, R443, R474). -/
def CartType.cart (t : CartType) (romBanks : Nat) (ram : Nat × Nat) (q : LoadRequest) : Cart where
  variant := t.finalVariant romBanks q.wisdomTree
  multicart := q.multicart && t.variant = .mbc1 && romBanks = 64
  rumble := t.rumble
  romBanks := romBanks
  ramBanks := ram.1
  ramBytes := ram.2
  hasRtc := t.rtc
  hasBattery := t.battery
  zeroAdjust := q.zeroAdjust
  handler := q.handler

/-- The cartridge an image's header describes: a type byte not listed is an unsupported mapper, a size code not listed or
an image shorter than its size code says an invalid header (62_mbc.md R432, R434; log 13). -/
def headerCart (f : RomFile) (q : LoadRequest) : Except LoadFailure Cart :=
  match cartType (f.image.read 0x0147) with
  | none => .error .unsupportedMapper
  | some t =>
    match romBanksOf (f.image.read 0x0148) with
    | none => .error .invalidHeader
    | some n =>
      match t.ramSize (f.image.read 0x0149) with
      | none => .error .invalidHeader
      | some ram => if f.size < n * 0x4000 then .error .invalidHeader else .ok (t.cart n ram q)

/-- The outcome of a load: the cartridge, or the category of the failure (62_mbc.md R431, U13). -/
def loadCart (q : LoadRequest) : Except LoadFailure Cart :=
  match q.file with
  | none => .error .ioFailure
  | some f => if f.size < headerEnd then .error .invalidHeader else headerCart f q

/-- The memories a load leaves: the image in ROM, the battery file in cartridge RAM, the others as they were
(70_reset_and_hazards.md R552; log 13). -/
def LoadRequest.mems (q : LoadRequest) (m : Mems) : Mems :=
  match q.file with
  | none => m
  | some f => { m with rom := f.image, sram := Memory.ofCells q.battery }

/-- A machine reset (70_reset_and_hazards.md R550): the state of `atReset`, then `TimaReschedule()` and
`IntRecompute()`, then the external devices set their own slots. Memories keep their contents; the clock's registers are
the sidecar file's, or those of `RESET` (63_rtc.md R509; log 8, log 11). -/
def State.hostReset (sidecar : Option RtcContents) (s : State) : State :=
  let q := s.hostTime
  let t := State.atReset s.params s.cart s.mem (sidecar.getD s.params.reset.rtc) q.1 q.2.ext
  (t.timaReschedule.intRecompute.callExt false (.resetDone t.cc)).2

/-- A cartridge load: it replaces the mapper variant and resets, or leaves the instance unloaded; either way the host is
told the result (62_mbc.md R431). -/
def State.hostLoad (q : LoadRequest) (s : State) : State :=
  match loadCart q with
  | .error e => { s with cart := none }.logEvent (.loaded (some e))
  | .ok c => ({ s with cart := some c, mem := q.mems s.mem }.hostReset q.sidecar).logEvent (.loaded none)

end Sys2Proof.Machine
end

