-- ==== Sys2Proof/Machine/Slots.lean ====
section
/-! DEFINITION. What the scheduler slots do when they fire, the halted advance, the start and the end of a run
(60_exceptions.md R341, R343, R348, R356 to R358; 61_scheduler.md R406, R410). -/

namespace Sys2Proof.Machine

/-- Move every enabled deadline other than UNHALT and END later by `d` (60_exceptions.md R356). -/
def Deadlines.delayDevices (d : Int) (q : Deadlines) : Deadlines where
  unhalt := q.unhalt
  endRun := q.endRun
  blit := q.blit.map (· + d)
  serial := q.serial.map (· + d)
  oamDma := q.oamDma.map (· + d)
  hdma := q.hdma.map (· + d)
  tima := q.tima.map (· + d)
  video := q.video.map (· + d)
  interrupts := q.interrupts.map (· + d)

/-- The end of a stop: the time that passed is removed from every device's time line (60_exceptions.md R356, R357). -/
def State.endStop (s : State) : State :=
  let d := s.cc - s.cpu.stopStart
  let s1 := { s with
    sched := s.sched.delayDevices d
    dma := { s.dma with last := s.dma.last.map (· + d) }
    timer := { s.timer with divBase := s.cc, timaLast := s.cc } }
  let s2 := s1.extResume d
  { s2 with cpu := { s2.cpu with stopped := false } }.timaReschedule

/-- The UNHALT slot fires (60_exceptions.md R356). -/
def State.fireUnhalt (s : State) : State :=
  let s1 := if s.cpu.stopped then s.endStop else s
  ({ s1 with cpu := { s1.cpu with halted := false } }.setSlot .unhalt none).intRecompute

/-- Leaving the halted state by an interrupt (60_exceptions.md R348). -/
def State.wake (s : State) : State :=
  if s.cpu.halted then
    { s with cc := s.cc + s.params.haltWakeDelay, cpu := { s.cpu with halted := false } }.setSlot .unhalt none
  else s

/-- The INTERRUPTS slot fires (60_exceptions.md R348). -/
def State.fireInterrupts (s : State) : State :=
  let s1 := s.wake
  (if s1.cpu.ime then s1.interruptDispatch else s1).intRecompute

/-- `REBASE_THRESHOLD`, and the `delta` chosen (61_scheduler.md R410). -/
def rebaseDelta : Int := 2147483648

/-- Every enabled deadline lowered by `d` (61_scheduler.md R410). -/
def Deadlines.rebase (d : Int) (q : Deadlines) : Deadlines where
  unhalt := q.unhalt.map (· - d)
  endRun := q.endRun.map (· - d)
  blit := q.blit.map (· - d)
  serial := q.serial.map (· - d)
  oamDma := q.oamDma.map (· - d)
  hdma := q.hdma.map (· - d)
  tima := q.tima.map (· - d)
  video := q.video.map (· - d)
  interrupts := q.interrupts.map (· - d)

/-- Every stored stamp lowered by `d` (61_scheduler.md R410). -/
def State.lowerStamps (d : Int) (s : State) : State :=
  { s with
    cc := s.cc - d
    sched := s.sched.rebase d
    timer := { s.timer with timaLast := s.timer.timaLast - d, divBase := s.timer.divBase - d }
    rtc := { s.rtc with last := s.rtc.last - d }
    bus := { s.bus with time := s.bus.time - d }
    dma := { s.dma with last := s.dma.last.map (· - d) }
    cpu := { s.cpu with stopStart := s.cpu.stopStart - d, minIntTime := max (s.cpu.minIntTime - d) 0 } }

/-- `Rebase()` (61_scheduler.md R410; log 7). -/
def State.rebase (s : State) : State :=
  let s1 := ((s.timerCatchUp s.cc).dmaCatchUp s.cc).rtcAdvance s.cc
  (s1.lowerStamps rebaseDelta).logEvent (.rebased rebaseDelta)

/-- The END slot: the run ends, `RunFor` returns the cycles run, and the counter is rebased if it is time
(60_exceptions.md R341). -/
def State.endRun (s : State) : State :=
  let s1 := (s.setSlot .endRun none).logEvent (.runReturned (s.cc - s.ext.runStart))
  if rebaseDelta ≤ s1.cc then s1.rebase else s1

/-- `Fire(slot)` with the current `cc` (61_scheduler.md R400, R406). -/
def State.fire (sl : Slot) (s : State) : State :=
  match sl with
  | .unhalt => s.fireUnhalt
  | .endRun => s.endRun
  | .blit => s.extFire .blit
  | .serial => s.extFire .serial
  | .oamDma => s.dmaCatchUp s.cc
  | .hdma => s.extFire .hdma
  | .tima => s.timerCatchUp s.cc
  | .video => s.extFire .video
  | .interrupts => s.fireInterrupts

/-- How far the halted CPU advances to reach `m` in whole M-cycles (60_exceptions.md R343). -/
def haltedAdvance (cc m : Int) : Int := (m - cc) + (4 - (m - cc) % 4) % 4

/-- The start of `RunFor(n)`: while stopped, a pressed button wakes the CPU (60_exceptions.md R341, R358). -/
def State.beginRun (n : Nat) (s : State) : State :=
  let s1 := if s.cpu.stopped then
      (if s.poll.1 ≠ 0 then s.poll.2.setSlot .unhalt (some s.cc) else s.poll.2)
    else s
  { s1 with ext := { s1.ext with runStart := s.cc } }.setSlot .endRun (some (s.cc + n))

/-- A host call, made between runs (00_scope.md R14; log 8). -/
def State.hostCall (c : HostCall) (s : State) : State :=
  match c with
  | .runFor n => s.beginRun n
  | .setBaseTime ts => s.setBaseTime ts
  | .setDivisorOffset offset => s.setDivisorOffset offset
  | .reset sidecar => s.hostReset sidecar
  | .load request => s.hostLoad request

end Sys2Proof.Machine
end

