-- ==== Sys2Proof/Machine/Fetch.lean ====
section
/-! DEFINITION. Executing one instruction and one pass of the run loop (60_exceptions.md R341), and placing bytes where
the machine fetches. Step.lean only calls these. -/

namespace Sys2Proof.Machine

/-- Run the instruction a list of fetched bytes holds, from the state after the fetch. -/
def runBytes (bytes : List Byte) (s : State) : Answer :=
  match decode bytes with
  | .ok i _ => exec i s
  | .rejected _ => .refused .undecodable

/-- `ExecuteInstruction()`: the fetch, then the rule of the decoded instruction (60_exceptions.md R341). -/
def executeInstruction (s : State) : Answer := runBytes s.fetchInstr.1 s.fetchInstr.2

/-- One pass of the run loop: an instruction or a halted advance while no deadline is reached, else the next slot
fires (60_exceptions.md R341 to R343). In a run END is enabled, so that there is a deadline (61_scheduler.md R404). -/
def runLoop (s : State) : Answer :=
  match s.runMin with
  | none => .next s
  | some m =>
    if s.cc < m then
      (if s.cpu.halted then .next (s.addCc (haltedAdvance s.cc m)) else executeInstruction s)
    else .next (s.fire s.nextSlot)

/-- Whether a run is on: END is enabled (60_exceptions.md R341). -/
def State.inRun (s : State) : Bool := s.sched.endRun.isSome

/-- Whether a variant's behaviour rests on the `CART.special` handler (62_mbc.md section 5, U12). U12 names the heuristic
variants too, but R474 gives a Wisdom Tree cartridge its whole behaviour: it needs no handler. DESIGN CHOICE (log 14),
unsafe. -/
def Variant.needsHandler : Variant → Bool
  | .huc1 => true
  | .huc3 => true
  | .camera => true
  | .mmm01 => true
  | .plain => false
  | .mbc1 => false
  | .mbc2 => false
  | .mbc3 => false
  | .mbc5 => false
  | .wisdomTree => false

/-- Why an instance cannot run, if it cannot (62_mbc.md R431, U12). -/
def State.cannotRun (s : State) : Option Refusal :=
  match s.cart with
  | none => some .unloaded
  | some c => if c.variant.needsHandler && !c.handler then some .noSpecialHandler else none

/-- Run, unless the instance cannot. -/
def runMachine (s : State) : Answer :=
  match s.cannotRun with
  | some r => .refused r
  | none => runLoop s

/-- Make a host call; `RunFor` needs an instance that can run (00_scope.md R14, 62_mbc.md R431). -/
def runHostCall (c : HostCall) (s : State) : Answer :=
  match c with
  | .runFor n =>
    match s.cannotRun with
    | some r => .refused r
    | none => .next (s.hostCall (.runFor n))
  | .setBaseTime ts => .next (s.hostCall (.setBaseTime ts))
  | .setDivisorOffset offset => .next (s.hostCall (.setDivisorOffset offset))
  | .reset sidecar => .next (s.hostCall (.reset sidecar))
  | .load request => .next (s.hostCall (.load request))

/-- The host call to make now: one waits and no run is on (log 8). -/
def State.nextCall (s : State) : Option (HostCall × State) :=
  match s.sched.endRun, s.ext.calls with
  | none, c :: rest => some (c, { s with ext := { s.ext with calls := rest } })
  | none, [] => none
  | some _, _ => none

/-- One step of the machine: one pass of the run loop in a run; between runs a host call, and with none waiting
nothing: only `RunFor` advances time (00_scope.md R14, 60_exceptions.md R341; log 2). -/
def machineStep (s : State) : Answer :=
  match s.nextCall with
  | some q => runHostCall q.1 q.2
  | none => if s.inRun then runMachine s else .next s

/-- Put a byte where a fetch at `a` reads it, if that is a memory. -/
def State.poke (a : Word) (v : Byte) (s : State) : State :=
  match region a with
  | .romLow => s.setByte .rom (s.romIndex a.toNat) v
  | .romHigh => s.setByte .rom (s.romIndex a.toNat) v
  | .vram => s.setByte .vram (s.vramIndex a.toNat) v
  | .cart => s.setByte .sram (s.ramOffset a.toNat) v
  | .wram => s.setByte .wram (s.wramIndex a.toNat) v
  | .echo => s.setByte .wram (s.wramIndex (a.toNat - 0x2000)) v
  | .oam => s.setByte .oam (a.toNat - 0xFE00) v
  | .oamx => s.setByte .oamx (a.toNat - 0xFEA0) v
  | .hram => s.setByte .hram (a.toNat - 0xFF80) v
  | .ie => { s with io := { s.io with ie := v } }
  | .io => s

/-- Put bytes at `a` and up. -/
def State.pokeAll : List Byte → Word → State → State
  | [], _, s => s
  | v :: vs, a, s => State.pokeAll vs (a + 1) (s.poke a v)

/-- A deadline of END ahead of `cc`: that of the run that is on, or of a run of 24 cycles, the longest instruction
(70_reset_and_hazards.md R570). -/
def State.endAhead (s : State) : Int :=
  match s.sched.endRun with
  | some e => if s.cc < e then e else s.cc + 24
  | none => s.cc + 24

/-- The state in which nothing stands between now and a fetch at `pc`: a run is on, and there is no host call, no halt,
no prefetch, no due slot, no transfer in flight (log 3). -/
def State.readyToFetch (s : State) : State :=
  { s with
    cpu := { s.cpu with halted := false, stopped := false, prefetched := false }
    ext := { s.ext with calls := [], vramOk := [], oamOk := [] }
    dma := if s.dma.last.isSome then OamDma.idle else s.dma
    sched := { (if reached s.runMin s.cc then Deadlines.disabled else s.sched) with endRun := some s.endAhead } }

end Sys2Proof.Machine
end

