-- ==== Sys2Proof/Machine/Step.lean ====
section
/-! DEFINITION. The step of the machine, and a state with an instruction placed where the step fetches. -/

namespace Sys2Proof.Machine

/-- One step: one instruction, one halted advance or one slot transition of a run, or a host call between runs
(60_exceptions.md R341; log 2). -/
def step (s : State) : Host.Outcome State Fault Refusal := machineStep s

/-- `s` with the bytes of a table word stored at `pc`, and nothing between it and their fetch (log 3). -/
def State.withFetchWord (s : State) (nbits w : Nat) : State :=
  State.pokeAll (tableBytes nbits w) s.cpu.pc s.readyToFetch

end Sys2Proof.Machine
end

