-- ==== Sys2Proof/Families.lean ====
section
/-! DEFINITION. The instruction families of the spec, indexed by their operands: the vocabulary of the statements. -/

namespace Sys2Proof.Family

open Sys2Proof.Machine

/-- `LD r,r'` (40_load8.md R170). -/
def ldRegReg (dst src : Reg8) : Instr :=
  match dst, src with
  | .b, .b => .ldBB
  | .b, .c => .ldBC
  | .b, .d => .ldBD
  | .b, .e => .ldBE
  | .b, .h => .ldBH
  | .b, .l => .ldBL
  | .b, .a => .ldBA
  | .c, .b => .ldCB
  | .c, .c => .ldCC
  | .c, .d => .ldCD
  | .c, .e => .ldCE
  | .c, .h => .ldCH
  | .c, .l => .ldCL
  | .c, .a => .ldCA
  | .d, .b => .ldDB
  | .d, .c => .ldDC
  | .d, .d => .ldDD
  | .d, .e => .ldDE
  | .d, .h => .ldDH
  | .d, .l => .ldDL
  | .d, .a => .ldDA
  | .e, .b => .ldEB
  | .e, .c => .ldEC
  | .e, .d => .ldED
  | .e, .e => .ldEE
  | .e, .h => .ldEH
  | .e, .l => .ldEL
  | .e, .a => .ldEA
  | .h, .b => .ldHB
  | .h, .c => .ldHC
  | .h, .d => .ldHD
  | .h, .e => .ldHE
  | .h, .h => .ldHH
  | .h, .l => .ldHL
  | .h, .a => .ldHA
  | .l, .b => .ldLB
  | .l, .c => .ldLC
  | .l, .d => .ldLD
  | .l, .e => .ldLE
  | .l, .h => .ldLH
  | .l, .l => .ldLL
  | .l, .a => .ldLA
  | .a, .b => .ldAB
  | .a, .c => .ldAC
  | .a, .d => .ldAD
  | .a, .e => .ldAE
  | .a, .h => .ldAH
  | .a, .l => .ldAL
  | .a, .a => .ldAA

/-- `LD r,(HL)` (40_load8.md R171). -/
def ldRegInd (r : Reg8) : Instr :=
  match r with
  | .b => .ldBIndHL
  | .c => .ldCIndHL
  | .d => .ldDIndHL
  | .e => .ldEIndHL
  | .h => .ldHIndHL
  | .l => .ldLIndHL
  | .a => .ldAIndHL

/-- `LD (HL),r` (40_load8.md R172). -/
def ldIndReg (r : Reg8) : Instr :=
  match r with
  | .b => .ldIndHLB
  | .c => .ldIndHLC
  | .d => .ldIndHLD
  | .e => .ldIndHLE
  | .h => .ldIndHLH
  | .l => .ldIndHLL
  | .a => .ldIndHLA

/-- `LD r,d8` (40_load8.md R173). -/
def ldRegImm (r : Reg8) (v : Byte) : Instr :=
  match r with
  | .b => .ldBImm v
  | .c => .ldCImm v
  | .d => .ldDImm v
  | .e => .ldEImm v
  | .h => .ldHImm v
  | .l => .ldLImm v
  | .a => .ldAImm v

/-- `INC r` (42_alu8.md R229). -/
def incReg (r : Reg8) : Instr :=
  match r with
  | .b => .incB
  | .c => .incC
  | .d => .incD
  | .e => .incE
  | .h => .incH
  | .l => .incL
  | .a => .incA

/-- `DEC r` (42_alu8.md R231). -/
def decReg (r : Reg8) : Instr :=
  match r with
  | .b => .decB
  | .c => .decC
  | .d => .decD
  | .e => .decE
  | .h => .decH
  | .l => .decL
  | .a => .decA

/-- The operations of the `alu` field (30_encoding.md R148). -/
inductive AluOp
  | add
  | adc
  | sub
  | sbc
  | and
  | xor
  | or
  | cp
deriving DecidableEq, Repr

/-- The source operand of an accumulator operation (42_alu8.md R220). -/
inductive Source
  | reg (r : Reg8)
  | indHL
  | imm (v : Byte)
deriving DecidableEq, Repr

/-- An accumulator operation on a register (42_alu8.md R220). -/
def aluReg (op : AluOp) (r : Reg8) : Instr :=
  match op, r with
  | .add, .b => .addAB
  | .add, .c => .addAC
  | .add, .d => .addAD
  | .add, .e => .addAE
  | .add, .h => .addAH
  | .add, .l => .addAL
  | .add, .a => .addAA
  | .adc, .b => .adcAB
  | .adc, .c => .adcAC
  | .adc, .d => .adcAD
  | .adc, .e => .adcAE
  | .adc, .h => .adcAH
  | .adc, .l => .adcAL
  | .adc, .a => .adcAA
  | .sub, .b => .subB
  | .sub, .c => .subC
  | .sub, .d => .subD
  | .sub, .e => .subE
  | .sub, .h => .subH
  | .sub, .l => .subL
  | .sub, .a => .subA
  | .sbc, .b => .sbcAB
  | .sbc, .c => .sbcAC
  | .sbc, .d => .sbcAD
  | .sbc, .e => .sbcAE
  | .sbc, .h => .sbcAH
  | .sbc, .l => .sbcAL
  | .sbc, .a => .sbcAA
  | .and, .b => .andB
  | .and, .c => .andC
  | .and, .d => .andD
  | .and, .e => .andE
  | .and, .h => .andH
  | .and, .l => .andL
  | .and, .a => .andA
  | .xor, .b => .xorB
  | .xor, .c => .xorC
  | .xor, .d => .xorD
  | .xor, .e => .xorE
  | .xor, .h => .xorH
  | .xor, .l => .xorL
  | .xor, .a => .xorA
  | .or, .b => .orB
  | .or, .c => .orC
  | .or, .d => .orD
  | .or, .e => .orE
  | .or, .h => .orH
  | .or, .l => .orL
  | .or, .a => .orA
  | .cp, .b => .cpB
  | .cp, .c => .cpC
  | .cp, .d => .cpD
  | .cp, .e => .cpE
  | .cp, .h => .cpH
  | .cp, .l => .cpL
  | .cp, .a => .cpA

/-- An accumulator operation (42_alu8.md R220). -/
def alu (op : AluOp) (src : Source) : Instr :=
  match op, src with
  | .add, .reg r => aluReg .add r
  | .add, .indHL => .addAIndHL
  | .add, .imm v => .addAImm v
  | .adc, .reg r => aluReg .adc r
  | .adc, .indHL => .adcAIndHL
  | .adc, .imm v => .adcAImm v
  | .sub, .reg r => aluReg .sub r
  | .sub, .indHL => .subIndHL
  | .sub, .imm v => .subImm v
  | .sbc, .reg r => aluReg .sbc r
  | .sbc, .indHL => .sbcAIndHL
  | .sbc, .imm v => .sbcAImm v
  | .and, .reg r => aluReg .and r
  | .and, .indHL => .andIndHL
  | .and, .imm v => .andImm v
  | .xor, .reg r => aluReg .xor r
  | .xor, .indHL => .xorIndHL
  | .xor, .imm v => .xorImm v
  | .or, .reg r => aluReg .or r
  | .or, .indHL => .orIndHL
  | .or, .imm v => .orImm v
  | .cp, .reg r => aluReg .cp r
  | .cp, .indHL => .cpIndHL
  | .cp, .imm v => .cpImm v

/-- The pairs of the field `rp` (30_encoding.md R145). -/
inductive Rp
  | bc
  | de
  | hl
  | sp
deriving DecidableEq, Repr

/-- The pairs of the field `rp2` (30_encoding.md R146). -/
inductive Rp2
  | bc
  | de
  | hl
  | af
deriving DecidableEq, Repr

/-- The register a pair field names. -/
def Rp.pair (p : Rp) : Reg16 :=
  match p with
  | .bc => .bc
  | .de => .de
  | .hl => .hl
  | .sp => .sp

/-- The register a stack pair field names. -/
def Rp2.pair (p : Rp2) : Reg16 :=
  match p with
  | .bc => .bc
  | .de => .de
  | .hl => .hl
  | .af => .af

/-- `LD rp,d16` (41_load16_stack.md R200). -/
def ldPairImm (p : Rp) (v : Word) : Instr :=
  match p with
  | .bc => .ldBCImm v
  | .de => .ldDEImm v
  | .hl => .ldHLImm v
  | .sp => .ldSPImm v

/-- `PUSH rp2` (41_load16_stack.md R208). -/
def push (p : Rp2) : Instr :=
  match p with
  | .bc => .pushBC
  | .de => .pushDE
  | .hl => .pushHL
  | .af => .pushAF

/-- `POP rp2` (41_load16_stack.md R209). -/
def pop (p : Rp2) : Instr :=
  match p with
  | .bc => .popBC
  | .de => .popDE
  | .hl => .popHL
  | .af => .popAF

/-- `ADD HL,rp` (43_alu16.md R260). -/
def addHL (p : Rp) : Instr :=
  match p with
  | .bc => .addHLBC
  | .de => .addHLDE
  | .hl => .addHLHL
  | .sp => .addHLSP

/-- `INC rp` (43_alu16.md R261). -/
def incPair (p : Rp) : Instr :=
  match p with
  | .bc => .incBC
  | .de => .incDE
  | .hl => .incHL
  | .sp => .incSP

/-- `DEC rp` (43_alu16.md R262). -/
def decPair (p : Rp) : Instr :=
  match p with
  | .bc => .decBC
  | .de => .decDE
  | .hl => .decHL
  | .sp => .decSP

/-- When a condition is true (30_encoding.md R147). -/
def condTrue (k : Cond) (f : Byte) : Bool :=
  match k with
  | .nz => !f.getLsbD 7
  | .z => f.getLsbD 7
  | .nc => !f.getLsbD 4
  | .c => f.getLsbD 4

/-- `JP cond,a16` (45_control.md R301). -/
def jpIf (k : Cond) (a : Word) : Instr :=
  match k with
  | .nz => .jpNZ a
  | .z => .jpZ a
  | .nc => .jpNC a
  | .c => .jpC a

/-- `JR cond,e8` (45_control.md R304). -/
def jrIf (k : Cond) (e : Byte) : Instr :=
  match k with
  | .nz => .jrNZ e
  | .z => .jrZ e
  | .nc => .jrNC e
  | .c => .jrC e

/-- `CALL cond,a16` (45_control.md R306). -/
def callIf (k : Cond) (a : Word) : Instr :=
  match k with
  | .nz => .callNZ a
  | .z => .callZ a
  | .nc => .callNC a
  | .c => .callC a

/-- `RET cond` (45_control.md R308). -/
def retIf (k : Cond) : Instr :=
  match k with
  | .nz => .retNZ
  | .z => .retZ
  | .nc => .retNC
  | .c => .retC

/-- `RST y*8` (45_control.md R312). -/
def rst (y : Fin 8) : Instr :=
  match y with
  | 0 => .rst00
  | 1 => .rst08
  | 2 => .rst10
  | 3 => .rst18
  | 4 => .rst20
  | 5 => .rst28
  | 6 => .rst30
  | 7 => .rst38

/-- `BIT b,r` (44_rotate_shift_bit.md R283). -/
def bit (b : Fin 8) (r : Operand) : Instr :=
  match b with
  | 0 => .bit0 r
  | 1 => .bit1 r
  | 2 => .bit2 r
  | 3 => .bit3 r
  | 4 => .bit4 r
  | 5 => .bit5 r
  | 6 => .bit6 r
  | 7 => .bit7 r

/-- `RES b,r` (44_rotate_shift_bit.md R284). -/
def res (b : Fin 8) (r : Operand) : Instr :=
  match b with
  | 0 => .res0 r
  | 1 => .res1 r
  | 2 => .res2 r
  | 3 => .res3 r
  | 4 => .res4 r
  | 5 => .res5 r
  | 6 => .res6 r
  | 7 => .res7 r

/-- `SET b,r` (44_rotate_shift_bit.md R285). -/
def set (b : Fin 8) (r : Operand) : Instr :=
  match b with
  | 0 => .set0 r
  | 1 => .set1 r
  | 2 => .set2 r
  | 3 => .set3 r
  | 4 => .set4 r
  | 5 => .set5 r
  | 6 => .set6 r
  | 7 => .set7 r

/-- The rotates and shifts of the `rot` field (30_encoding.md R149). -/
inductive RotOp
  | rlc
  | rrc
  | rl
  | rr
  | sla
  | sra
  | swap
  | srl
deriving DecidableEq, Repr

/-- A prefixed rotate or shift (44_rotate_shift_bit.md R275 to R282). -/
def rot (op : RotOp) (r : Operand) : Instr :=
  match op with
  | .rlc => .rlc r
  | .rrc => .rrc r
  | .rl => .rl r
  | .rr => .rr r
  | .sla => .sla r
  | .sra => .sra r
  | .swap => .swap r
  | .srl => .srl r

/-- The loads of `A` from memory, by addressing mode (40_load8.md R189). -/
inductive LoadA
  | indBC
  | indDE
  | abs (a : Word)
  | high (v : Byte)
  | highC
deriving DecidableEq, Repr

/-- `LD A,(BC)`, `LD A,(DE)`, `LD A,(a16)`, `LDH A,(a8)`, `LDH A,(C)` (40_load8.md R175, R176, R183, R185, R187). -/
def loadA (m : LoadA) : Instr :=
  match m with
  | .indBC => .ldAIndBC
  | .indDE => .ldAIndDE
  | .abs a => .ldAIndA16 a
  | .high v => .ldhAIndA8 v
  | .highC => .ldhAIndC

/-- `LD (BC),A`, `LD (DE),A`, `LD (a16),A`, `LDH (a8),A`, `LDH (C),A` (40_load8.md R177, R178, R184, R186, R188). -/
def storeA (m : LoadA) : Instr :=
  match m with
  | .indBC => .ldIndBCA
  | .indDE => .ldIndDEA
  | .abs a => .ldIndA16A a
  | .high v => .ldhIndA8A v
  | .highC => .ldhIndCA

/-- The eleven undefined opcodes (30_encoding.md R156). -/
def undefined : List Instr :=
  [.undefD3, .undefDB, .undefDD, .undefE3, .undefE4, .undefEB, .undefEC, .undefED, .undefF4, .undefFC, .undefFD]

end Sys2Proof.Family
end

