-- ==== Sys2Proof/Formulas.lean ====
section
/-! DEFINITION. What the statements compare the machine with: field codes, costs, flag bytes and results, written from
the spec's tables and pseudocode on natural numbers, apart from the machine's own operations. -/

namespace Sys2Proof.Family

open Sys2Proof.Machine

/-- The field `r` (30_encoding.md R144). -/
def regCode (r : Reg8) : Nat :=
  match r with
  | .b => 0
  | .c => 1
  | .d => 2
  | .e => 3
  | .h => 4
  | .l => 5
  | .a => 7

/-- The field `z` of an operand; 6 is `(HL)` (30_encoding.md R144). -/
def fieldCode (r : Operand) : Nat :=
  match r with
  | .reg x => regCode x
  | .indHL => 6

/-- The field `rp` (30_encoding.md R145). -/
def Rp.code (p : Rp) : Nat :=
  match p with
  | .bc => 0
  | .de => 1
  | .hl => 2
  | .sp => 3

/-- The field `rp2` (30_encoding.md R146). -/
def Rp2.code (p : Rp2) : Nat :=
  match p with
  | .bc => 0
  | .de => 1
  | .hl => 2
  | .af => 3

/-- The field `cond` (30_encoding.md R147). -/
def condCode (k : Cond) : Nat :=
  match k with
  | .nz => 0
  | .z => 1
  | .nc => 2
  | .c => 3

/-- The field `alu` (30_encoding.md R148). -/
def AluOp.code (op : AluOp) : Nat :=
  match op with
  | .add => 0
  | .adc => 1
  | .sub => 2
  | .sbc => 3
  | .and => 4
  | .xor => 5
  | .or => 6
  | .cp => 7

/-- The field `rot` (30_encoding.md R149). -/
def RotOp.code (op : RotOp) : Nat :=
  match op with
  | .rlc => 0
  | .rrc => 1
  | .rl => 2
  | .rr => 3
  | .sla => 4
  | .sra => 5
  | .swap => 6
  | .srl => 7

/-- The byte with the fields `x`, `y`, `z` (30_encoding.md R142). -/
def opByte (x y z : Nat) : Byte := BitVec.ofNat 8 (64 * x + 8 * y + z)

/-- The low and the high byte of an immediate, in the order of the instruction stream (30_encoding.md R143). -/
def immBytes (v : Word) : List Byte := [BitVec.ofNat 8 (v.toNat % 256), BitVec.ofNat 8 (v.toNat / 256)]

/-- The opcodes of 3-byte instructions (30_encoding.md R157). -/
def threeByteOpcodes : List Byte :=
  [0x01, 0x11, 0x21, 0x31, 0x08, 0xC2, 0xC3, 0xC4, 0xCA, 0xCC, 0xCD, 0xD2, 0xD4, 0xDA, 0xDC, 0xEA, 0xFA]

/-- The opcodes of 2-byte instructions (30_encoding.md R157). -/
def twoByteOpcodes : List Byte :=
  [0x06, 0x0E, 0x16, 0x1E, 0x26, 0x2E, 0x36, 0x3E, 0x10, 0x18, 0x20, 0x28, 0x30, 0x38, 0xC6, 0xCE, 0xD6, 0xDE,
   0xE6, 0xEE, 0xF6, 0xFE, 0xE0, 0xF0, 0xE8, 0xF8, 0xCB]

/-- The bytes an instruction fetches: its length, but for the byte `STOP` skips (30_encoding.md R157,
46_system.md R323). -/
def fetches (i : Instr) : Int := if i = .stop then 1 else ((encode i).length : Int)

/-- `i` is encoded as `bytes`, and from `s` (its bytes fetched) to `t` it has taken `n` units of `cc` in all, 4 for each
byte fetched included (00_scope.md R11). -/
def fits (i : Instr) (bytes : List Byte) (n : Int) (s t : State) : Prop :=
  encode i = bytes ∧ 4 * fetches i + (t.cc - s.cc) = n

/-- The column `cycles` of spec/opcode_table.json (70_reset_and_hazards.md R570); `taken` tells which
conditions hold. -/
def cost (i : Instr) (taken : Cond → Bool) : Int :=
  match i with
  | .nop | .incB | .decB | .rlca | .incC | .decC | .rrca | .stop | .incD | .decD | .rla | .incE | .decE | .rra
  | .incH | .decH | .daa | .incL | .decL | .cpl | .scf | .incA | .decA | .ccf | .ldBB | .ldBC | .ldBD | .ldBE
  | .ldBH | .ldBL | .ldBA | .ldCB | .ldCC | .ldCD | .ldCE | .ldCH | .ldCL | .ldCA | .ldDB | .ldDC | .ldDD
  | .ldDE | .ldDH | .ldDL | .ldDA | .ldEB | .ldEC | .ldED | .ldEE | .ldEH | .ldEL | .ldEA | .ldHB | .ldHC
  | .ldHD | .ldHE | .ldHH | .ldHL | .ldHA | .ldLB | .ldLC | .ldLD | .ldLE | .ldLH | .ldLL | .ldLA | .halt
  | .ldAB | .ldAC | .ldAD | .ldAE | .ldAH | .ldAL | .ldAA | .addAB | .addAC | .addAD | .addAE | .addAH | .addAL
  | .addAA | .adcAB | .adcAC | .adcAD | .adcAE | .adcAH | .adcAL | .adcAA | .subB | .subC | .subD | .subE
  | .subH | .subL | .subA | .sbcAB | .sbcAC | .sbcAD | .sbcAE | .sbcAH | .sbcAL | .sbcAA | .andB | .andC
  | .andD | .andE | .andH | .andL | .andA | .xorB | .xorC | .xorD | .xorE | .xorH | .xorL | .xorA | .orB | .orC
  | .orD | .orE | .orH | .orL | .orA | .cpB | .cpC | .cpD | .cpE | .cpH | .cpL | .cpA | .undefD3 | .undefDB
  | .undefDD | .undefE3 | .undefE4 | .jpHL | .undefEB | .undefEC | .undefED | .di | .undefF4 | .ei | .undefFC
  | .undefFD => 4
  | .ldIndBCA | .incBC | .ldBImm _ | .addHLBC | .ldAIndBC | .decBC | .ldCImm _ | .ldIndDEA | .incDE | .ldDImm _
  | .addHLDE | .ldAIndDE | .decDE | .ldEImm _ | .ldIndHLIncA | .incHL | .ldHImm _ | .addHLHL | .ldAIndHLInc
  | .decHL | .ldLImm _ | .ldIndHLDecA | .incSP | .addHLSP | .ldAIndHLDec | .decSP | .ldAImm _ | .ldBIndHL
  | .ldCIndHL | .ldDIndHL | .ldEIndHL | .ldHIndHL | .ldLIndHL | .ldIndHLB | .ldIndHLC | .ldIndHLD | .ldIndHLE
  | .ldIndHLH | .ldIndHLL | .ldIndHLA | .ldAIndHL | .addAIndHL | .adcAIndHL | .subIndHL | .sbcAIndHL
  | .andIndHL | .xorIndHL | .orIndHL | .cpIndHL | .addAImm _ | .adcAImm _ | .subImm _ | .sbcAImm _ | .ldhIndCA
  | .andImm _ | .xorImm _ | .ldhAIndC | .orImm _ | .ldSPHL | .cpImm _ => 8
  | .ldBCImm _ | .ldDEImm _ | .jr _ | .ldHLImm _ | .ldSPImm _ | .incIndHL | .decIndHL | .ldIndHLImm _ | .popBC
  | .popDE | .ldhIndA8A _ | .popHL | .ldhAIndA8 _ | .popAF | .ldHLSPImm _ => 12
  | .jp _ | .pushBC | .rst00 | .ret | .rst08 | .pushDE | .rst10 | .reti | .rst18 | .pushHL | .rst20
  | .addSPImm _ | .ldIndA16A _ | .rst28 | .pushAF | .rst30 | .ldAIndA16 _ | .rst38 => 16
  | .ldIndA16SP _ => 20
  | .call _ => 24
  | .jrNZ _ => if taken .nz then 12 else 8
  | .jrZ _ => if taken .z then 12 else 8
  | .jrNC _ => if taken .nc then 12 else 8
  | .jrC _ => if taken .c then 12 else 8
  | .retNZ => if taken .nz then 20 else 8
  | .jpNZ _ => if taken .nz then 16 else 12
  | .callNZ _ => if taken .nz then 24 else 12
  | .retZ => if taken .z then 20 else 8
  | .jpZ _ => if taken .z then 16 else 12
  | .callZ _ => if taken .z then 24 else 12
  | .retNC => if taken .nc then 20 else 8
  | .jpNC _ => if taken .nc then 16 else 12
  | .callNC _ => if taken .nc then 24 else 12
  | .retC => if taken .c then 20 else 8
  | .jpC _ => if taken .c then 16 else 12
  | .callC _ => if taken .c then 24 else 12
  | .rlc r | .rrc r | .rl r | .rr r | .sla r | .sra r | .swap r | .srl r | .res0 r | .res1 r | .res2 r
  | .res3 r | .res4 r | .res5 r | .res6 r | .res7 r | .set0 r | .set1 r | .set2 r | .set3 r | .set4 r | .set5 r
  | .set6 r | .set7 r => if r = .indHL then 16 else 8
  | .bit0 r | .bit1 r | .bit2 r | .bit3 r | .bit4 r | .bit5 r | .bit6 r | .bit7 r => if r = .indHL then 12 else 8
  | .prefixCb => 8

/-- `F` with the flags `z n h c` and bits 3:0 zero (10_state.md R26). -/
def flagByte (z n h c : Bool) : Byte :=
  BitVec.ofNat 8 (128 * z.toNat + 64 * n.toNat + 32 * h.toNat + 16 * c.toNat)

/-- The source operand `s` of an accumulator operation and the state after it is read (42_alu8.md R220). -/
def Source.read (src : Source) (s : State) : Byte × State :=
  match src with
  | .reg r => (s.reg8 r, s)
  | .indHL => s.memRead (s.reg16 .hl)
  | .imm v => (v, s)

/-- The encoding of an accumulator operation (42_alu8.md R220). -/
def Source.bytes (src : Source) (op : AluOp) : List Byte :=
  match src with
  | .reg r => [opByte 2 op.code (regCode r)]
  | .indHL => [opByte 2 op.code 6]
  | .imm v => [opByte 3 op.code 6, v]

/-- The cost of an accumulator operation (42_alu8.md R220). -/
def Source.cycles (src : Source) : Int :=
  match src with
  | .reg _ => 4
  | .indHL => 8
  | .imm _ => 8

/-- The effective address of a load or store of `A` (40_load8.md R175 to R178, R183 to R188). -/
def LoadA.address (m : LoadA) (s : State) : Word :=
  match m with
  | .indBC => s.reg16 .bc
  | .indDE => s.reg16 .de
  | .abs a => a
  | .high v => BitVec.ofNat 16 (0xFF00 + v.toNat)
  | .highC => BitVec.ofNat 16 (0xFF00 + s.cpu.c.toNat)

/-- The bytes of a load of `A` (40_load8.md R175, R176, R183, R185, R187). -/
def LoadA.loadBytes (m : LoadA) : List Byte :=
  match m with
  | .indBC => [0x0A]
  | .indDE => [0x1A]
  | .abs a => 0xFA :: immBytes a
  | .high v => [0xF0, v]
  | .highC => [0xF2]

/-- The bytes of a store of `A` (40_load8.md R177, R178, R184, R186, R188). -/
def LoadA.storeBytes (m : LoadA) : List Byte :=
  match m with
  | .indBC => [0x02]
  | .indDE => [0x12]
  | .abs a => 0xEA :: immBytes a
  | .high v => [0xE0, v]
  | .highC => [0xE2]

/-- The cost of a load or store of `A`. -/
def LoadA.cycles (m : LoadA) : Int :=
  match m with
  | .indBC => 8
  | .indDE => 8
  | .abs _ => 16
  | .high _ => 12
  | .highC => 8

/-- The result of a rotate or shift of the byte `m` with incoming carry `c`, and the carry out
(44_rotate_shift_bit.md R275 to R282). -/
def RotOp.result (op : RotOp) (m : Nat) (c : Bool) : Nat × Bool :=
  match op with
  | .rlc => (m % 128 * 2 + m / 128, m / 128 = 1)
  | .rrc => (m % 2 * 128 + m / 2, m % 2 = 1)
  | .rl => (m % 128 * 2 + c.toNat, m / 128 = 1)
  | .rr => (c.toNat * 128 + m / 2, m % 2 = 1)
  | .sla => (m % 128 * 2, m / 128 = 1)
  | .sra => (m / 128 * 128 + m / 2, m % 2 = 1)
  | .swap => (m % 16 * 16 + m / 16, false)
  | .srl => (m / 2, m % 2 = 1)

/-- The adjustment of `DAA` and the carry after it, from `A` and the flags `N H C` (42_alu8.md R233). -/
def daaStep (a : Nat) (n h c : Bool) : Nat × Bool :=
  if n then ((256 + a - (if h then 0x06 else 0) - (if c then 0x60 else 0)) % 256, c)
  else
    ((a + (if h ∨ 9 < a % 16 then 0x06 else 0) + (if c ∨ 0x99 < a then 0x60 else 0)) % 256, c || 0x99 < a)

/-- The value of a byte of two decimal digits, if it is one. -/
def bcd (v : Byte) : Option Nat :=
  if v.toNat / 16 < 10 ∧ v.toNat % 16 < 10 then some (10 * (v.toNat / 16) + v.toNat % 16) else none

/-- `e` as a signed displacement added to an address, modulo 2^16 (30_encoding.md R150). -/
def displaced (w : Word) (e : Byte) : Word :=
  BitVec.ofInt 16 (w.toNat + (if 128 ≤ e.toNat then (e.toNat : Int) - 256 else e.toNat))

/-- The accumulator rotates (44_rotate_shift_bit.md R270 to R273). -/
def rotA (op : RotOp) : Option Instr :=
  match op with
  | .rlc => some .rlca
  | .rrc => some .rrca
  | .rl => some .rla
  | .rr => some .rra
  | .sla => none
  | .sra => none
  | .swap => none
  | .srl => none

/-- What an instruction that makes one store writes, and where: the store forms of 40_load8.md R172, R174, R177, R178,
R181, R182, R184, R186, R188. -/
inductive Store8
  | reg (r : Reg8)
  | imm (v : Byte)
  | fromA (m : LoadA)
  | inc
  | dec
deriving DecidableEq, Repr

/-- The instruction of a store form. -/
def Store8.instr (f : Store8) : Instr :=
  match f with
  | .reg r => ldIndReg r
  | .imm v => .ldIndHLImm v
  | .fromA m => storeA m
  | .inc => .ldIndHLIncA
  | .dec => .ldIndHLDecA

/-- The address a store form stores to. -/
def Store8.address (f : Store8) (s : State) : Word :=
  match f with
  | .reg _ => s.reg16 .hl
  | .imm _ => s.reg16 .hl
  | .fromA m => m.address s
  | .inc => s.reg16 .hl
  | .dec => s.reg16 .hl

/-- The byte a store form stores. -/
def Store8.value (f : Store8) (s : State) : Byte :=
  match f with
  | .reg r => s.reg8 r
  | .imm v => v
  | .fromA _ => s.cpu.a
  | .inc => s.cpu.a
  | .dec => s.cpu.a

/-- The read-modify-write forms on `(HL)` (42_alu8.md R230, R232; 44_rotate_shift_bit.md R275 to R282, R284, R285). -/
inductive Modify
  | inc
  | dec
  | rot (op : RotOp)
  | res (b : Fin 8)
  | set (b : Fin 8)
deriving DecidableEq, Repr

/-- The instruction of a read-modify-write form. -/
def Modify.instr (f : Modify) : Instr :=
  match f with
  | .inc => .incIndHL
  | .dec => .decIndHL
  | .rot op => Family.rot op .indHL
  | .res b => Family.res b .indHL
  | .set b => Family.set b .indHL

/-- The byte a read-modify-write form stores for the byte `m` read. -/
def Modify.value (f : Modify) (m : Byte) (c : Bool) : Byte :=
  match f with
  | .inc => BitVec.ofNat 8 (m.toNat + 1)
  | .dec => BitVec.ofNat 8 (m.toNat + 255)
  | .rot op => BitVec.ofNat 8 (op.result m.toNat c).1
  | .res b => m &&& ~~~(1#8 <<< b.val)
  | .set b => m ||| 1#8 <<< b.val

/-- The index of a slot: among equal deadlines the lower fires first (61_scheduler.md R400). -/
def slotIndex (sl : Slot) : Nat :=
  match sl with
  | .unhalt => 0
  | .endRun => 1
  | .blit => 2
  | .serial => 3
  | .oamDma => 4
  | .hdma => 5
  | .tima => 6
  | .video => 7
  | .interrupts => 8

/-- The mapper variants whose cartridge window is decided by 62_mbc.md R438, R439 and R451 alone, but for MBC2's. -/
def plainWindow (c : Cart) : Bool :=
  match c.variant with
  | .plain => true
  | .mbc1 => true
  | .mbc2 => false
  | .mbc3 => true
  | .mbc5 => true
  | .huc1 => false
  | .huc3 => false
  | .camera => false
  | .mmm01 => false
  | .wisdomTree => false

/-- The RAM bank number the registers give, before it is masked (62_mbc.md R439, R470 to R472). -/
def ramBankRaw (v : Variant) (m : Mapper) : Nat :=
  match v with
  | .mbc1 => if m.mode then m.bank2.toNat else 0
  | .mbc3 => m.ramBankReg.toNat
  | .mbc5 => m.ramBankReg.toNat
  | .huc1 => m.ramBankReg.toNat
  | .huc3 => m.ramBankReg.toNat
  | .camera => m.ramBankReg.toNat
  | .plain => 0
  | .mbc2 => 0
  | .mmm01 => 0
  | .wisdomTree => 0

/-- The columns of the cartridge type table (62_mbc.md R432). -/
structure TypeRow where
  variant : Variant
  ram : Bool := false
  battery : Bool := false
  rtc : Bool := false
  rumble : Bool := false
deriving DecidableEq, Repr

/-- The cartridge type table, by type byte (62_mbc.md R432). -/
def cartTypes : List (Nat × TypeRow) :=
  [(0x00, { variant := .plain }), (0x01, { variant := .mbc1 }), (0x02, { variant := .mbc1, ram := true }),
   (0x03, { variant := .mbc1, ram := true, battery := true }), (0x05, { variant := .mbc2 }),
   (0x06, { variant := .mbc2, battery := true }), (0x08, { variant := .plain, ram := true }),
   (0x09, { variant := .plain, ram := true, battery := true }), (0x0B, { variant := .mmm01 }),
   (0x0C, { variant := .mmm01, ram := true }), (0x0D, { variant := .mmm01, ram := true, battery := true })] ++
  [(0x0F, { variant := .mbc3, battery := true, rtc := true }),
   (0x10, { variant := .mbc3, ram := true, battery := true, rtc := true }), (0x11, { variant := .mbc3 }),
   (0x12, { variant := .mbc3, ram := true }), (0x13, { variant := .mbc3, ram := true, battery := true }),
   (0x19, { variant := .mbc5 }), (0x1A, { variant := .mbc5, ram := true }),
   (0x1B, { variant := .mbc5, ram := true, battery := true }), (0x1C, { variant := .mbc5, rumble := true }),
   (0x1D, { variant := .mbc5, ram := true, rumble := true }),
   (0x1E, { variant := .mbc5, ram := true, battery := true, rumble := true })] ++
  [(0xFC, { variant := .camera, ram := true, battery := true }),
   (0xFE, { variant := .huc3, ram := true, battery := true, rtc := true }),
   (0xFF, { variant := .huc1, ram := true, battery := true })]

/-- The value a list of assignments leaves at `k`: the last one counts. -/
def lastOf {κ α : Type} [DecidableEq κ] (l : List (κ × α)) (k : κ) (old : α) : α :=
  l.foldl (fun x c => if c.1 = k then c.2 else x) old

/-- What a call of an external handler may do, and does for the next answer (20_memory.md R112): set the four device
slots, request interrupts, and, for HDMA only, write VRAM. Nothing else changes but the model's own lists (log 5). -/
def handlerDoes (hdma : Bool) (ev : ExtEvent) (s t : State) : Prop :=
  match s.ext.answers with
  | [] => t = { s with ext := { s.ext with log := ev :: s.ext.log } }
  | ans :: rest =>
    t = { s with
      io := { s.io with ifr := s.io.ifr ||| ans.irq }
      sched := { s.sched with
        blit := lastOf ans.sets .blit s.sched.blit
        serial := lastOf ans.sets .serial s.sched.serial
        hdma := lastOf ans.sets .hdma s.sched.hdma
        video := lastOf ans.sets .video s.sched.video
        interrupts := if ans.irq = 0 then s.sched.interrupts else t.interruptDeadline }
      mem := { s.mem with vram := t.mem.vram }
      ext := { s.ext with answers := rest, log := ev :: s.ext.log } } ∧
    (hdma = false → t.mem.vram = s.mem.vram) ∧
    (hdma = true → ∀ k, t.byte .vram k = lastOf ans.vram k (s.byte .vram k))

/-- The locked-up state an undefined opcode leaves: halted, not stopped, no interrupt enabled, no UNHALT deadline
(46_system.md R327). -/
def lockedUp (s : State) : Prop :=
  s.cpu.halted = true ∧ s.cpu.stopped = false ∧ s.io.ie = 0x00 ∧ s.sched.unhalt = none

end Sys2Proof.Family
end

