-- ==== Sys2Proof/Safety.lean ====
section
/-! DEFINITION. What the statements call a good state: the invariants the spec names, and where a store lands. -/

namespace Sys2Proof.Machine

/-- Every storage array is in canonical form (log 4). -/
def Mems.wf (m : Mems) : Bool :=
  m.rom.wf && m.sram.wf && m.vram.wf && m.wram.wf && m.oam.wf && m.oamx.wf && m.hram.wf

/-- A cartridge of 62_mbc.md R434: at least two ROM banks, and whole RAM banks or the 2 KiB case. -/
def Cart.wf (c : Cart) : Bool :=
  2 ≤ c.romBanks && (c.ramBytes = c.ramBanks * 0x2000 || (c.ramBanks = 0 && c.ramBytes = 2048))

/-- The idle engine's registers (64_oamdma.md R521). -/
def OamDma.atRest (d : OamDma) : Bool := d.src = .off && d.pos = 0xFE#8 && d.startPos = 0x00#8

/-- The record `RESET` keeps what the rules say of every state: bits 3:0 of `F` read 0 (10_state.md R26), `stopped` is
meaningful only while `halted` (R30), a DMG has no double speed (R32, R38). -/
def Params.resetOk (p : Params) : Bool :=
  p.reset.cpu.f &&& 0x0F#8 = 0x00#8 && (!p.reset.cpu.stopped || p.reset.cpu.halted) &&
    (p.model = .cgb || (!p.reset.cpu.doubleSpeed && !p.reset.io.prepare))

/-- The invariant every step keeps. Each field is a sentence of the spec, `memories` aside (log 4). -/
structure State.Inv (s : State) : Prop where
  /-- Memories are in canonical form. -/
  memories : s.mem.wf = true
  /-- Bits 3:0 of `F` read 0 (10_state.md R26). -/
  flags : s.cpu.f &&& 0x0F#8 = 0x00#8
  /-- `stopped` is meaningful only while `halted` is true (10_state.md R30). -/
  stopHalted : s.cpu.stopped = true → s.cpu.halted = true
  /-- `doubleSpeed` is always false on DMG, which has no `KEY1` (10_state.md R32, R38). -/
  dmgSpeed : s.cgb = false → s.cpu.doubleSpeed = false ∧ s.io.prepare = false
  /-- The idle engine (64_oamdma.md R521). -/
  dmaIdle : s.dma.last = none → s.dma.atRest = true
  /-- `deadline[OAMDMA] = dmaLast + 4`, `DISABLED` when idle (64_oamdma.md R521). -/
  dmaDeadline : s.sched.oamDma = s.dma.last.map (· + 4)
  /-- While not stopped, `deadline[TIMA]` is the next overflow (60_exceptions.md R368). -/
  timaSlot : s.cpu.stopped = false → s.sched.tima = s.timaDeadline
  /-- `deadline[INTERRUPTS]` is enabled exactly when 60_exceptions.md R346 says. -/
  interruptSlot : s.sched.interrupts.isSome = s.interruptDeadline.isSome
  /-- A loaded cartridge is well-formed (62_mbc.md R434). -/
  cartridge : ∀ c, s.cart = some c → c.wf = true
  /-- The record `RESET` is one of the machine's (70_reset_and_hazards.md R551). -/
  resetRecord : s.params.resetOk = true
  /-- `RTC_DIVISOR + divisorOffset` stays positive (63_rtc.md R508). -/
  divisor : 0 < rtcDivisor + s.rtc.divisorOffset

/-- The cell of storage a bus write of the decoder lands in, if any, with the value stored for `v`. `s` is the state
after the engine's catch-up (20_memory.md R91, R98, R101 to R105; 62_mbc.md R439, R446). -/
def State.decodedCell (a : Word) (v : Byte) (s : State) : Option (Store × Nat × Byte) :=
  match region a with
  | .romLow => none
  | .romHigh => none
  | .vram => if s.askVram.1 then some (.vram, s.vramIndex a.toNat, v) else none
  | .cart =>
    match s.window with
    | .ram writable => if writable then some (.sram, s.ramOffset a.toNat, v) else none
    | .halfBytes => some (.sram, halfByteIndex a.toNat, v &&& 0x0F#8)
    | .closed => none
    | .rtc _ => none
    | .special => none
  | .wram => some (.wram, s.wramIndex a.toNat, v)
  | .echo => some (.wram, s.wramIndex (a.toNat - 0x2000), v)
  | .oam => if s.askOam.1 && s.oamFree then some (.oam, a.toNat - 0xFE00, v) else none
  | .oamx => if s.askOam.1 && s.oamFree && s.cgb then some (.oamx, a.toNat - 0xFEA0, v) else none
  | .io => none
  | .hram => some (.hram, a.toNat - 0xFF80, v)
  | .ie => none

/-- The cell of storage `BusWrite(a, v, cc)` stores to, if any: the byte in flight when the access is diverted, else
the decoder's (20_memory.md R91). -/
def State.storedCell (a : Word) (v : Byte) (s : State) : Option (Store × Nat × Byte) :=
  if s.diverted a then some (.oam, (s.busCatchUp a).dma.pos.toNat, v) else (s.busCatchUp a).decodedCell a v

/-- Whether an access at `a` can reach an external handler that itself writes memory: HDMA's registers write VRAM
(20_memory.md R112), a special cartridge writes its RAM (62_mbc.md R472). -/
def State.reachesWriter (a : Word) (s : State) : Bool :=
  isHdmaAddress a || (region a = .cart && s.window = .special) || (s.cartridge.variant = .mmm01 && a.toNat < 0x8000)

end Sys2Proof.Machine
end

