-- ==== Sys2Proof/WellFormed.lean ====
section
/-! DEFINITION. The well-formed instructions: those a whole encoding stands for. -/

namespace Sys2Proof

/-- The prefix `0xCB` is not an instruction of its own: it has no encoding without its second byte
(46_system.md R325). -/
def isLonePrefix (i : Instr) : Bool := i = .prefixCb

/-- Every other term is well-formed: the types of the operands admit exactly the encodable values
(30_encoding.md R144, R150, R156). -/
def wellFormed (i : Instr) : Bool := !isLonePrefix i

end Sys2Proof
end

