-- ==== Sys2Proof/Certificates/Slice0/Obligations.lean ====
section
/-! DEFINITION. The statements for the provers. `t` is always the state after; a statement that gives the whole state
after also says that everything it does not name is as before. -/

open Sys2Proof Sys2Proof.Machine Sys2Proof.Family

/-! ### Encoding -/

/-- 30_encoding.md R142 to R155: no bit of an encoding is dropped. -/
def Obligations.DecodeOfEncodeIsTheInstruction : Prop :=
  ∀ (i : Instr) (rest : List Byte), wellFormed i = true → decode (encode i ++ rest) = .ok i rest

/-- 30_encoding.md R140, R151 to R155: a list of bytes has one meaning; only the byte `STOP` skips is free (R143). -/
def Obligations.EncodeOfDecodeIsTheBytes : Prop :=
  ∀ (bytes rest : List Byte) (i : Instr), decode bytes = .ok i rest → wellFormed i = true →
    (i ≠ .stop → bytes = encode i ++ rest) ∧
    (i = .stop → rest = bytes.drop 2 ∧ bytes.head? = some 0x10)

/-- 30_encoding.md R157. -/
def Obligations.FirstByteGivesTheLength : Prop :=
  ∀ (op a b : Byte) (rest : List Byte),
    (op ∈ threeByteOpcodes → ∃ i, decode (op :: a :: b :: rest) = .ok i rest) ∧
    (op ∈ twoByteOpcodes → ∃ i, decode (op :: a :: rest) = .ok i rest) ∧
    (op ∉ threeByteOpcodes → op ∉ twoByteOpcodes → ∃ i, decode (op :: rest) = .ok i rest)

/-- Words of spec/opcode_table.json written out from 30_encoding.md R143 and R151 to R155. -/
def Obligations.TableWordsDecode : Prop :=
  decodeTableWord 8 0x00 = some .nop ∧ decodeTableWord 8 0x76 = some .halt ∧
  decodeTableWord 8 0x66 = some .ldHIndHL ∧ decodeTableWord 8 0x70 = some .ldIndHLB ∧
  decodeTableWord 16 0x9C3E = some (.ldAImm 0x9C) ∧ decodeTableWord 24 0x015031 = some (.ldSPImm 0x0150) ∧
  decodeTableWord 24 0xC00008 = some (.ldIndA16SP 0xC000) ∧ decodeTableWord 24 0x0150C3 = some (.jp 0x0150) ∧
  decodeTableWord 16 0xFE18 = some (.jr 0xFE) ∧ decodeTableWord 24 0x0200CD = some (.call 0x0200) ∧
  decodeTableWord 16 0x0FF0 = some (.ldhAIndA8 0x0F) ∧ decodeTableWord 8 0x8E = some .adcAIndHL ∧
  decodeTableWord 16 0xFFFE = some (.cpImm 0xFF) ∧ decodeTableWord 8 0xF5 = some .pushAF ∧
  decodeTableWord 8 0xEF = some .rst28 ∧ decodeTableWord 16 0x0010 = some .stop ∧
  decodeTableWord 16 0x7ECB = some (.bit7 .indHL) ∧ decodeTableWord 16 0xDDCB = some (.set3 (.reg .l)) ∧
  decodeTableWord 16 0x30CB = some (.swap (.reg .b)) ∧ decodeTableWord 8 0xFD = some .undefFD ∧
  decodeTableWord 8 0x09 = some .addHLBC ∧ decodeTableWord 16 0xFEE8 = some (.addSPImm 0xFE)

/-! ### The step -/

/-- 60_exceptions.md R341, R342: in a run (END enabled), while the CPU is not halted and no deadline is reached, the step is
the instruction the fetched bytes decode to, run in the state after its fetch. -/
def Obligations.StepRunsTheDecodedInstruction : Prop :=
  ∀ (i : Instr) (rest : List Byte) (s : State), s.sched.endRun.isSome = true → s.cannotRun = none →
    s.cpu.halted = false → reached s.runMin s.cc = false → decode s.fetchInstr.1 = .ok i rest →
    step s = exec i s.fetchInstr.2

/-- 60_exceptions.md R340: a step answers a next state, or refuses an instance that cannot run (62_mbc.md R431,
93_implementation_defined.md U12, U14). Between runs, END disabled, time stands still (00_scope.md R14): a step makes the
next host call, and with none waiting changes nothing; that the calls stand in a queue and are made one a step is the
model's choice (log 2, log 8). `RunFor` polls the buttons while stopped and enables END (60_exceptions.md R341, R358). -/
def Obligations.StepAnswersUnlessTheInstanceCannotRun : Prop :=
  ∀ (c : HostCall) (rest : List HostCall) (n : Nat) (s : State),
    let q := { s with ext := { s.ext with calls := rest } }
    ((∃ t, step s = .next t) ∨ (∃ r, s.cannotRun = some r ∧ step s = .refused r)) ∧
    (s.sched.endRun = none → s.ext.calls = [] → step s = .next s) ∧
    (s.sched.endRun = none → s.ext.calls = c :: rest → (∀ k, c ≠ .runFor k) → step s = .next (q.hostCall c)) ∧
    (s.sched.endRun = none → s.ext.calls = .runFor n :: rest → s.cannotRun = none →
      (s.cpu.stopped = false → step s = .next { q with
        sched := { s.sched with endRun := some (s.cc + n) }
        ext := { q.ext with runStart := s.cc } }) ∧
      (s.cpu.stopped = true → step s = .next { q.poll.2 with
        sched := { s.sched with
          endRun := some (s.cc + n)
          unhalt := if q.poll.1 = 0 then s.sched.unhalt else some s.cc }
        ext := { q.poll.2.ext with runStart := s.cc } }))

/-- 70_reset_and_hazards.md R570, for every instruction, every operand and every state. -/
def Obligations.EveryInstructionCompletesAtItsCost : Prop :=
  ∀ (i : Instr) (s : State), wellFormed i = true →
    ∃ t, exec i s = .next t ∧ 4 * fetches i + (t.cc - s.cc) = cost i (fun k => condTrue k s.cpu.f)

/-- 00_scope.md R10, 30_encoding.md R141: the primitives the pseudocode is written in, the opcode fetch with and
without a prefetched opcode, and the fetch of a whole instruction. -/
def Obligations.PseudocodePrimitivesAndFetch : Prop :=
  ∀ (a w : Word) (v : Byte) (n : Nat) (s : State),
    s.memRead a = ((s.busRead a).1, { (s.busRead a).2 with cc := s.cc + 4 }) ∧
    s.memWrite a v = { s.busWrite a v with cc := s.cc + 4 } ∧
    s.tick = { s with cc := s.cc + 4 } ∧
    s.fetch8 = ((s.memRead s.cpu.pc).1, { (s.memRead s.cpu.pc).2 with cpu := { s.cpu with pc := s.cpu.pc + 1 } }) ∧
    (let s1 := ({ s with cpu := { s.cpu with sp := s.cpu.sp - 1 } }).memWrite (s.cpu.sp - 1) (hiByte w)
     s.push16 w = ({ s1 with cpu := { s.cpu with sp := s.cpu.sp - 2 } }).memWrite (s.cpu.sp - 2) (loByte w)) ∧
    (let lo := s.memRead s.cpu.sp
     let hi := ({ lo.2 with cpu := { s.cpu with sp := s.cpu.sp + 1 } }).memRead (s.cpu.sp + 1)
     s.pop16 = (join hi.1 lo.1, { hi.2 with cpu := { s.cpu with sp := s.cpu.sp + 2 } })) ∧
    (s.cpu.prefetched = true →
      s.fetchOpcode = (s.cpu.latch, { s with cc := s.cc + 4, cpu := { s.cpu with prefetched := false } })) ∧
    (s.cpu.prefetched = false → s.fetchOpcode = s.fetch8) ∧
    s.fetchBytes 0 = ([], s) ∧
    s.fetchBytes (n + 1) = (s.fetch8.1 :: (s.fetch8.2.fetchBytes n).1, (s.fetch8.2.fetchBytes n).2) ∧
    s.fetchInstr = (s.fetchOpcode.1 :: (s.fetchOpcode.2.fetchBytes (operandCount s.fetchOpcode.1)).1,
      (s.fetchOpcode.2.fetchBytes (operandCount s.fetchOpcode.1)).2)

/-- 10_state.md R22, R23, R24, R26: the register file, its pairs and the discarded bits of `F`. Writing a register or a
pair changes nothing else: the CPU with it put back is the CPU before, and the rest of the machine is as it was. -/
def Obligations.RegisterFileAndPairs : Prop :=
  ∀ (r q : Reg8) (p : Reg16) (v h l : Byte) (w : Word) (s : State),
    ((s.setReg8 r v).reg8 q = if q = r then v else s.reg8 q) ∧
    (s.setReg8 r v).cpu.f = s.cpu.f ∧ (s.setReg8 r v).cpu.sp = s.cpu.sp ∧
    { s.setReg8 r v with cpu := s.cpu } = s ∧
    { (s.setReg8 .a v).cpu with a := s.cpu.a } = s.cpu ∧ { (s.setReg8 .b v).cpu with b := s.cpu.b } = s.cpu ∧
    { (s.setReg8 .c v).cpu with c := s.cpu.c } = s.cpu ∧ { (s.setReg8 .d v).cpu with d := s.cpu.d } = s.cpu ∧
    { (s.setReg8 .e v).cpu with e := s.cpu.e } = s.cpu ∧ { (s.setReg8 .h v).cpu with h := s.cpu.h } = s.cpu ∧
    { (s.setReg8 .l v).cpu with l := s.cpu.l } = s.cpu ∧
    { (s.setReg16 .bc w).cpu with b := s.cpu.b, c := s.cpu.c } = s.cpu ∧
    { (s.setReg16 .de w).cpu with d := s.cpu.d, e := s.cpu.e } = s.cpu ∧
    { (s.setReg16 .hl w).cpu with h := s.cpu.h, l := s.cpu.l } = s.cpu ∧
    { (s.setReg16 .sp w).cpu with sp := s.cpu.sp } = s.cpu ∧
    { (s.setReg16 .af w).cpu with a := s.cpu.a, f := s.cpu.f } = s.cpu ∧
    (p ≠ .af → (s.setReg16 p w).reg16 p = w ∧ (s.setReg16 p w).cpu.f = s.cpu.f) ∧
    ((s.setReg16 .af w).reg8 .a).toNat = w.toNat / 256 ∧
    (s.setReg16 .af w).cpu.f.toNat = w.toNat % 256 / 16 * 16 ∧
    { s.setReg16 p w with cpu := s.cpu } = s ∧
    (s.reg16 .bc).toNat = 256 * s.cpu.b.toNat + s.cpu.c.toNat ∧
    (s.reg16 .de).toNat = 256 * s.cpu.d.toNat + s.cpu.e.toNat ∧
    (s.reg16 .hl).toNat = 256 * s.cpu.h.toNat + s.cpu.l.toNat ∧
    (s.reg16 .af).toNat = 256 * s.cpu.a.toNat + s.cpu.f.toNat ∧
    s.reg16 .sp = s.cpu.sp ∧
    (join h l).toNat = 256 * h.toNat + l.toNat ∧
    (hiByte w).toNat = w.toNat / 256 ∧ (loByte w).toNat = w.toNat % 256

/-! ### Loads and stores -/

/-- 40_load8.md R170, R173. -/
def Obligations.LoadRegisterFromRegisterOrImmediate : Prop :=
  ∀ (dst src : Reg8) (v : Byte) (s : State),
    (∃ t, exec (ldRegReg dst src) s = .next t ∧ t = s.setReg8 dst (s.reg8 src) ∧
      fits (ldRegReg dst src) [opByte 1 (regCode dst) (regCode src)] 4 s t) ∧
    (∃ t, exec (ldRegImm dst v) s = .next t ∧ t = s.setReg8 dst v ∧
      fits (ldRegImm dst v) [opByte 0 (regCode dst) 6, v] 8 s t)

/-- 40_load8.md R171, R175, R176, R179, R180, R183, R185, R187: the address is computed before the destination is
written, and `HL` steps after the access. -/
def Obligations.LoadRegisterFromMemory : Prop :=
  ∀ (r : Reg8) (m : LoadA) (s : State),
    (∃ t, exec (ldRegInd r) s = .next t ∧
      t = (s.memRead (s.reg16 .hl)).2.setReg8 r (s.memRead (s.reg16 .hl)).1 ∧
      fits (ldRegInd r) [opByte 1 (regCode r) 6] 8 s t) ∧
    (∃ t, exec (loadA m) s = .next t ∧
      t = { (s.memRead (m.address s)).2 with cpu := { s.cpu with a := (s.memRead (m.address s)).1 } } ∧
      fits (loadA m) m.loadBytes m.cycles s t) ∧
    (∃ t, exec .ldAIndHLInc s = .next t ∧
      t = ({ (s.memRead (s.reg16 .hl)).2 with
        cpu := { s.cpu with a := (s.memRead (s.reg16 .hl)).1 } }).setReg16 .hl (s.reg16 .hl + 1) ∧
      fits .ldAIndHLInc [0x2A] 8 s t) ∧
    (∃ t, exec .ldAIndHLDec s = .next t ∧
      t = ({ (s.memRead (s.reg16 .hl)).2 with
        cpu := { s.cpu with a := (s.memRead (s.reg16 .hl)).1 } }).setReg16 .hl (s.reg16 .hl - 1) ∧
      fits .ldAIndHLDec [0x3A] 8 s t)

/-- 40_load8.md R172, R174, R177, R178, R181, R182, R184, R186, R188. -/
def Obligations.StoreRegisterToMemory : Prop :=
  ∀ (r : Reg8) (m : LoadA) (v : Byte) (s : State),
    (∃ t, exec (ldIndReg r) s = .next t ∧ t = s.memWrite (s.reg16 .hl) (s.reg8 r) ∧
      fits (ldIndReg r) [opByte 1 6 (regCode r)] 8 s t) ∧
    (∃ t, exec (.ldIndHLImm v) s = .next t ∧ t = s.memWrite (s.reg16 .hl) v ∧
      fits (.ldIndHLImm v) [0x36, v] 12 s t) ∧
    (∃ t, exec (storeA m) s = .next t ∧ t = s.memWrite (m.address s) s.cpu.a ∧
      fits (storeA m) m.storeBytes m.cycles s t) ∧
    (∃ t, exec .ldIndHLIncA s = .next t ∧
      t = (s.memWrite (s.reg16 .hl) s.cpu.a).setReg16 .hl (s.reg16 .hl + 1) ∧
      fits .ldIndHLIncA [0x22] 8 s t) ∧
    (∃ t, exec .ldIndHLDecA s = .next t ∧
      t = (s.memWrite (s.reg16 .hl) s.cpu.a).setReg16 .hl (s.reg16 .hl - 1) ∧
      fits .ldIndHLDecA [0x32] 8 s t)

/-- The frame of every instruction that makes one store: the store forms (40_load8.md R172, R174, R177, R178, R181, R182,
R184, R186, R188), and the read-modify-write forms on `(HL)`, whose store follows the read (42_alu8.md R230, R232;
44_rotate_shift_bit.md R274, R284, R285). Of the storage the store changes exactly the cell the bus decodes its address
to, if any; of the CPU only `HL` changes in the stepping forms, and `F` in the others. An active OAM-DMA engine is
caught up first (20_memory.md R91). -/
def Obligations.StoresChangeOnlyTheCellTheyAddress : Prop :=
  ∀ (f : Store8) (g : Modify) (s : State),
    let hl := s.reg16 .hl
    let r := s.memRead hl
    let x := g.value r.1 (s.cpu.f.getLsbD 4)
    (s.reachesWriter (f.address s) = false →
      ∃ t, exec f.instr s = .next t ∧
        (∀ (st : Store) (k : Nat), t.byte st k =
          match s.storedCell (f.address s) (f.value s) with
          | some (st', k', v) => if st = st' ∧ k = k' then v else (s.busCatchUp (f.address s)).byte st k
          | none => (s.busCatchUp (f.address s)).byte st k) ∧
        (f ≠ .inc → f ≠ .dec → t.cpu = s.cpu) ∧
        { t.cpu with h := s.cpu.h, l := s.cpu.l } = s.cpu) ∧
    (r.2.reachesWriter hl = false →
      ∃ t, exec g.instr s = .next t ∧
        (∀ (st : Store) (k : Nat), t.byte st k =
          match r.2.storedCell hl x with
          | some (st', k', v) => if st = st' ∧ k = k' then v else (r.2.busCatchUp hl).byte st k
          | none => (r.2.busCatchUp hl).byte st k) ∧
        { t.cpu with f := s.cpu.f } = s.cpu)

/-- 41_load16_stack.md R200 to R203. -/
def Obligations.LoadPairsAndStackPointer : Prop :=
  ∀ (p : Rp) (v a : Word) (e : Byte) (s : State),
    (∃ t, exec (ldPairImm p v) s = .next t ∧ t = s.setReg16 p.pair v ∧
      fits (ldPairImm p v) (opByte 0 (2 * p.code) 1 :: immBytes v) 12 s t) ∧
    (∃ t, exec (.ldIndA16SP a) s = .next t ∧
      t = (s.memWrite a (loByte s.cpu.sp)).memWrite (a + 1) (hiByte s.cpu.sp) ∧
      fits (.ldIndA16SP a) (0x08 :: immBytes a) 20 s t) ∧
    (∃ t, exec .ldSPHL s = .next t ∧
      t = { s with cc := s.cc + 4, cpu := { s.cpu with sp := s.reg16 .hl } } ∧ fits .ldSPHL [0xF9] 8 s t) ∧
    (∃ t, exec (.ldHLSPImm e) s = .next t ∧
      t = ({ s with cc := s.cc + 4, cpu := { s.cpu with
          f := flagByte false false (15 < s.cpu.sp.toNat % 16 + e.toNat % 16) (255 < s.cpu.sp.toNat % 256 + e.toNat) }
        }).setReg16 .hl (displaced s.cpu.sp e) ∧
      fits (.ldHLSPImm e) [0xF8, e] 12 s t)

/-- 41_load16_stack.md R208, R209. -/
def Obligations.PushAndPop : Prop :=
  ∀ (p : Rp2) (s : State),
    (∃ t, exec (push p) s = .next t ∧ t = ({ s with cc := s.cc + 4 }).push16 (s.reg16 p.pair) ∧
      fits (push p) [opByte 3 (2 * p.code) 5] 16 s t) ∧
    (∃ t, exec (pop p) s = .next t ∧ t = s.pop16.2.setReg16 p.pair s.pop16.1 ∧
      fits (pop p) [opByte 3 (2 * p.code) 1] 12 s t)

/-! ### 8-bit arithmetic and logic -/

/-- 42_alu8.md R221, R222. -/
def Obligations.AddAndAddWithCarry : Prop :=
  ∀ (src : Source) (s : State),
    let a := s.cpu.a.toNat
    let m := (src.read s).1.toNat
    let c := (s.cpu.f.getLsbD 4).toNat
    (∃ t, exec (alu .add src) s = .next t ∧
      t = { (src.read s).2 with cpu := { s.cpu with
        a := BitVec.ofNat 8 (a + m)
        f := flagByte ((a + m) % 256 = 0) false (15 < a % 16 + m % 16) (255 < a + m) } } ∧
      fits (alu .add src) (src.bytes .add) src.cycles s t) ∧
    (∃ t, exec (alu .adc src) s = .next t ∧
      t = { (src.read s).2 with cpu := { s.cpu with
        a := BitVec.ofNat 8 (a + m + c)
        f := flagByte ((a + m + c) % 256 = 0) false (15 < a % 16 + m % 16 + c) (255 < a + m + c) } } ∧
      fits (alu .adc src) (src.bytes .adc) src.cycles s t)

/-- 42_alu8.md R223, R224, R228. -/
def Obligations.SubtractAndCompare : Prop :=
  ∀ (src : Source) (s : State),
    let a := s.cpu.a.toNat
    let m := (src.read s).1.toNat
    let c := (s.cpu.f.getLsbD 4).toNat
    (∃ t, exec (alu .sub src) s = .next t ∧
      t = { (src.read s).2 with cpu := { s.cpu with
        a := BitVec.ofInt 8 ((a : Int) - m)
        f := flagByte (a = m) true (a % 16 < m % 16) (a < m) } } ∧
      fits (alu .sub src) (src.bytes .sub) src.cycles s t) ∧
    (∃ t, exec (alu .sbc src) s = .next t ∧
      t = { (src.read s).2 with cpu := { s.cpu with
        a := BitVec.ofInt 8 ((a : Int) - m - c)
        f := flagByte (((a : Int) - m - c) % 256 = 0) true (a % 16 < m % 16 + c) (a < m + c) } } ∧
      fits (alu .sbc src) (src.bytes .sbc) src.cycles s t) ∧
    (∃ t, exec (alu .cp src) s = .next t ∧
      t = { (src.read s).2 with cpu := { s.cpu with f := flagByte (a = m) true (a % 16 < m % 16) (a < m) } } ∧
      fits (alu .cp src) (src.bytes .cp) src.cycles s t)

/-- 42_alu8.md R225, R226, R227, R234, R235, R236. -/
def Obligations.LogicAndCarryFlagOperations : Prop :=
  ∀ (src : Source) (s : State),
    let a := s.cpu.a
    let m := (src.read s).1
    let z := s.cpu.f.getLsbD 7
    let c := s.cpu.f.getLsbD 4
    (∃ t, exec (alu .and src) s = .next t ∧
      t = { (src.read s).2 with cpu := { s.cpu with a := a &&& m, f := flagByte (a &&& m = 0) false true false } } ∧
      fits (alu .and src) (src.bytes .and) src.cycles s t) ∧
    (∃ t, exec (alu .xor src) s = .next t ∧
      t = { (src.read s).2 with cpu := { s.cpu with a := a ^^^ m, f := flagByte (a = m) false false false } } ∧
      fits (alu .xor src) (src.bytes .xor) src.cycles s t) ∧
    (∃ t, exec (alu .or src) s = .next t ∧
      t = { (src.read s).2 with
        cpu := { s.cpu with a := a ||| m, f := flagByte (a = 0 ∧ m = 0) false false false } } ∧
      fits (alu .or src) (src.bytes .or) src.cycles s t) ∧
    (∃ t, exec .cpl s = .next t ∧
      t = { s with cpu := { s.cpu with a := BitVec.ofNat 8 (255 - a.toNat), f := flagByte z true true c } } ∧
      fits .cpl [0x2F] 4 s t) ∧
    (∃ t, exec .scf s = .next t ∧ t = { s with cpu := { s.cpu with f := flagByte z false false true } } ∧
      fits .scf [0x37] 4 s t) ∧
    (∃ t, exec .ccf s = .next t ∧ t = { s with cpu := { s.cpu with f := flagByte z false false (!c) } } ∧
      fits .ccf [0x3F] 4 s t)

/-- 42_alu8.md R229, R230, R231, R232: `C` is kept. -/
def Obligations.IncrementAndDecrement : Prop :=
  ∀ (r : Reg8) (s : State),
    let v := (s.reg8 r).toNat
    let q := s.memRead (s.reg16 .hl)
    let m := q.1.toNat
    let c := s.cpu.f.getLsbD 4
    (∃ t, exec (incReg r) s = .next t ∧
      t = ({ s with cpu := { s.cpu with f := flagByte (v = 255) false (v % 16 = 15) c } }).setReg8 r
        (BitVec.ofNat 8 (v + 1)) ∧
      fits (incReg r) [opByte 0 (regCode r) 4] 4 s t) ∧
    (∃ t, exec (decReg r) s = .next t ∧
      t = ({ s with cpu := { s.cpu with f := flagByte (v = 1) true (v % 16 = 0) c } }).setReg8 r
        (BitVec.ofInt 8 ((v : Int) - 1)) ∧
      fits (decReg r) [opByte 0 (regCode r) 5] 4 s t) ∧
    (∃ t, exec .incIndHL s = .next t ∧
      t = { q.2.memWrite (s.reg16 .hl) (BitVec.ofNat 8 (m + 1)) with
        cpu := { s.cpu with f := flagByte (m = 255) false (m % 16 = 15) c } } ∧
      fits .incIndHL [0x34] 12 s t) ∧
    (∃ t, exec .decIndHL s = .next t ∧
      t = { q.2.memWrite (s.reg16 .hl) (BitVec.ofInt 8 ((m : Int) - 1)) with
        cpu := { s.cpu with f := flagByte (m = 1) true (m % 16 = 0) c } } ∧
      fits .decIndHL [0x35] 12 s t)

/-- 42_alu8.md R233. -/
def Obligations.DecimalAdjust : Prop :=
  ∀ (s : State),
    let r := daaStep s.cpu.a.toNat (s.cpu.f.getLsbD 6) (s.cpu.f.getLsbD 5) (s.cpu.f.getLsbD 4)
    ∃ t, exec .daa s = .next t ∧
      t = { s with cpu := { s.cpu with
        a := BitVec.ofNat 8 r.1
        f := flagByte (r.1 = 0) (s.cpu.f.getLsbD 6) false r.2 } } ∧
      fits .daa [0x27] 4 s t

/-- What R233 is for: after the addition or subtraction of two bytes of decimal digits, `DAA` leaves the decimal sum or
difference modulo 100, and the decimal carry or borrow in `C` (42_alu8.md R221, R223, R233). -/
def Obligations.DecimalAdjustCorrectsSumsAndDifferences : Prop :=
  ∀ (v : Byte) (x y : Nat) (s : State), bcd s.cpu.a = some x → bcd v = some y →
    (∃ t u, exec (.addAImm v) s = .next t ∧ exec .daa t = .next u ∧
      bcd u.cpu.a = some ((x + y) % 100) ∧ u.cpu.f.getLsbD 4 = decide (100 ≤ x + y)) ∧
    (∃ t u, exec (.subImm v) s = .next t ∧ exec .daa t = .next u ∧
      bcd u.cpu.a = some ((100 + x - y) % 100) ∧ u.cpu.f.getLsbD 4 = decide (x < y))

/-! ### 16-bit arithmetic -/

/-- 43_alu16.md R260 to R263. -/
def Obligations.Arithmetic16 : Prop :=
  ∀ (p : Rp) (e : Byte) (s : State),
    let h := (s.reg16 .hl).toNat
    let v := (s.reg16 p.pair).toNat
    let sp := s.cpu.sp.toNat
    (∃ t, exec (addHL p) s = .next t ∧
      t = ({ s with cc := s.cc + 4, cpu := { s.cpu with
        f := flagByte (s.cpu.f.getLsbD 7) false (4095 < h % 4096 + v % 4096) (65535 < h + v) } }).setReg16 .hl
          (BitVec.ofNat 16 (h + v)) ∧
      fits (addHL p) [opByte 0 (2 * p.code + 1) 1] 8 s t) ∧
    (∃ t, exec (incPair p) s = .next t ∧
      t = ({ s with cc := s.cc + 4 }).setReg16 p.pair (BitVec.ofNat 16 (v + 1)) ∧
      fits (incPair p) [opByte 0 (2 * p.code) 3] 8 s t) ∧
    (∃ t, exec (decPair p) s = .next t ∧
      t = ({ s with cc := s.cc + 4 }).setReg16 p.pair (BitVec.ofInt 16 ((v : Int) - 1)) ∧
      fits (decPair p) [opByte 0 (2 * p.code + 1) 3] 8 s t) ∧
    (∃ t, exec (.addSPImm e) s = .next t ∧
      t = { s with cc := s.cc + 8, cpu := { s.cpu with
        sp := displaced s.cpu.sp e
        f := flagByte false false (15 < sp % 16 + e.toNat % 16) (255 < sp % 256 + e.toNat) } } ∧
      fits (.addSPImm e) [0xE8, e] 16 s t)

/-! ### Rotates, shifts and bits -/

/-- 44_rotate_shift_bit.md R270 to R273 (`Z` cleared) and R275 to R282 (`Z` from the result). -/
def Obligations.RotatesAndShifts : Prop :=
  ∀ (op : RotOp) (i : Instr) (x : Reg8) (s : State),
    let c := s.cpu.f.getLsbD 4
    let ra := op.result s.cpu.a.toNat c
    let r := op.result (s.reg8 x).toNat c
    let q := s.memRead (s.reg16 .hl)
    let m := op.result q.1.toNat c
    (rotA op = some i → ∃ t, exec i s = .next t ∧
      t = { s with cpu := { s.cpu with a := BitVec.ofNat 8 ra.1, f := flagByte false false false ra.2 } } ∧
      fits i [opByte 0 op.code 7] 4 s t) ∧
    (∃ t, exec (rot op (.reg x)) s = .next t ∧
      t = ({ s with cpu := { s.cpu with f := flagByte (r.1 = 0) false false r.2 } }).setReg8 x (BitVec.ofNat 8 r.1) ∧
      fits (rot op (.reg x)) [0xCB, opByte 0 op.code (regCode x)] 8 s t) ∧
    (∃ t, exec (rot op .indHL) s = .next t ∧
      t = { q.2.memWrite (s.reg16 .hl) (BitVec.ofNat 8 m.1) with
        cpu := { s.cpu with f := flagByte (m.1 = 0) false false m.2 } } ∧
      fits (rot op .indHL) [0xCB, opByte 0 op.code 6] 16 s t)

/-- 44_rotate_shift_bit.md R283, R284, R285: `BIT` writes nothing back, `RES` and `SET` change no flag, and their `(HL)`
forms always write. -/
def Obligations.BitResetAndSet : Prop :=
  ∀ (b : Fin 8) (x : Reg8) (s : State),
    let z := s.cpu.f.getLsbD 4
    let q := s.memRead (s.reg16 .hl)
    (∃ t, exec (bit b (.reg x)) s = .next t ∧
      t = { s with cpu := { s.cpu with f := flagByte ((s.reg8 x).toNat / 2 ^ b.val % 2 = 0) false true z } } ∧
      fits (bit b (.reg x)) [0xCB, opByte 1 b.val (regCode x)] 8 s t) ∧
    (∃ t, exec (bit b .indHL) s = .next t ∧
      t = { q.2 with cpu := { s.cpu with f := flagByte (q.1.toNat / 2 ^ b.val % 2 = 0) false true z } } ∧
      fits (bit b .indHL) [0xCB, opByte 1 b.val 6] 12 s t) ∧
    (∃ t, exec (res b (.reg x)) s = .next t ∧ t = s.setReg8 x (s.reg8 x &&& ~~~(1#8 <<< b.val)) ∧
      fits (res b (.reg x)) [0xCB, opByte 2 b.val (regCode x)] 8 s t) ∧
    (∃ t, exec (res b .indHL) s = .next t ∧ t = q.2.memWrite (s.reg16 .hl) (q.1 &&& ~~~(1#8 <<< b.val)) ∧
      fits (res b .indHL) [0xCB, opByte 2 b.val 6] 16 s t) ∧
    (∃ t, exec (set b (.reg x)) s = .next t ∧ t = s.setReg8 x (s.reg8 x ||| 1#8 <<< b.val) ∧
      fits (set b (.reg x)) [0xCB, opByte 3 b.val (regCode x)] 8 s t) ∧
    (∃ t, exec (set b .indHL) s = .next t ∧ t = q.2.memWrite (s.reg16 .hl) (q.1 ||| 1#8 <<< b.val) ∧
      fits (set b .indHL) [0xCB, opByte 3 b.val 6] 16 s t)

/-! ### Jumps, calls and returns -/

/-- 45_control.md R300 to R304. -/
def Obligations.JumpsTakenAndNotTaken : Prop :=
  ∀ (k : Cond) (a : Word) (e : Byte) (s : State),
    (∃ t, exec (.jp a) s = .next t ∧ t = { s with cc := s.cc + 4, cpu := { s.cpu with pc := a } } ∧
      fits (.jp a) (0xC3 :: immBytes a) 16 s t) ∧
    (∃ t, exec (jpIf k a) s = .next t ∧
      (condTrue k s.cpu.f = true → t = { s with cc := s.cc + 4, cpu := { s.cpu with pc := a } } ∧
        fits (jpIf k a) (opByte 3 (condCode k) 2 :: immBytes a) 16 s t) ∧
      (condTrue k s.cpu.f = false → t = s ∧ fits (jpIf k a) (opByte 3 (condCode k) 2 :: immBytes a) 12 s t)) ∧
    (∃ t, exec .jpHL s = .next t ∧ t = { s with cpu := { s.cpu with pc := s.reg16 .hl } } ∧
      fits .jpHL [0xE9] 4 s t) ∧
    (∃ t, exec (.jr e) s = .next t ∧
      t = { s with cc := s.cc + 4, cpu := { s.cpu with pc := displaced s.cpu.pc e } } ∧
      fits (.jr e) [0x18, e] 12 s t) ∧
    (∃ t, exec (jrIf k e) s = .next t ∧
      (condTrue k s.cpu.f = true →
        t = { s with cc := s.cc + 4, cpu := { s.cpu with pc := displaced s.cpu.pc e } } ∧
        fits (jrIf k e) [opByte 0 (4 + condCode k) 0, e] 12 s t) ∧
      (condTrue k s.cpu.f = false → t = s ∧ fits (jrIf k e) [opByte 0 (4 + condCode k) 0, e] 8 s t))

/-- 45_control.md R305, R306, R312: the address pushed is that of the byte after the instruction, which `pc` holds once
the instruction is fetched. -/
def Obligations.CallsPushTheReturnAddress : Prop :=
  ∀ (k : Cond) (y : Fin 8) (a : Word) (s : State),
    let pushed := ({ s with cc := s.cc + 4 }).push16 s.cpu.pc
    (∃ t, exec (.call a) s = .next t ∧ t = { pushed with cpu := { pushed.cpu with pc := a } } ∧
      fits (.call a) (0xCD :: immBytes a) 24 s t) ∧
    (∃ t, exec (callIf k a) s = .next t ∧
      (condTrue k s.cpu.f = true → t = { pushed with cpu := { pushed.cpu with pc := a } } ∧
        fits (callIf k a) (opByte 3 (condCode k) 4 :: immBytes a) 24 s t) ∧
      (condTrue k s.cpu.f = false → t = s ∧ fits (callIf k a) (opByte 3 (condCode k) 4 :: immBytes a) 12 s t)) ∧
    (∃ t, exec (rst y) s = .next t ∧
      t = { pushed with cpu := { pushed.cpu with pc := BitVec.ofNat 16 (8 * y.val) } } ∧
      fits (rst y) [opByte 3 y.val 7] 16 s t) ∧
    pushed.cpu = { s.cpu with sp := s.cpu.sp - 2 }

/-- 45_control.md R307, R308, R309. -/
def Obligations.ReturnsPopTheAddress : Prop :=
  ∀ (k : Cond) (s : State),
    let q := s.pop16
    let w := ({ s with cc := s.cc + 4 }).pop16
    (∃ t, exec .ret s = .next t ∧ t = { q.2 with cc := s.cc + 12, cpu := { q.2.cpu with pc := q.1 } } ∧
      fits .ret [0xC9] 16 s t) ∧
    (∃ t, exec (retIf k) s = .next t ∧
      (condTrue k s.cpu.f = true → t = { w.2 with cc := s.cc + 16, cpu := { w.2.cpu with pc := w.1 } } ∧
        fits (retIf k) [opByte 3 (condCode k) 0] 20 s t) ∧
      (condTrue k s.cpu.f = false → t = { s with cc := s.cc + 4 } ∧
        fits (retIf k) [opByte 3 (condCode k) 0] 8 s t)) ∧
    (∃ t, exec .reti s = .next t ∧
      t = ({ q.2 with cc := s.cc + 12, cpu := { q.2.cpu with pc := q.1, ime := true, minIntTime := s.cc + 12 }
        }).intRecompute ∧
      fits .reti [0xD9] 16 s t)

/-- A return takes the machine back behind a call, from any stack in work RAM or HRAM (45_control.md R305, R307,
R312): the call's address is reached in between. -/
def Obligations.ReturnAfterCallResumesTheCaller : Prop :=
  ∀ (a : Word) (s : State), s.dma.last = none →
    ((0xC002 ≤ s.cpu.sp.toNat ∧ s.cpu.sp.toNat ≤ 0xFE00) ∨ (0xFF82 ≤ s.cpu.sp.toNat ∧ s.cpu.sp.toNat ≤ 0xFFFF)) →
    ∃ t u, exec (.call a) s = .next t ∧ t.cpu.pc = a ∧ exec .ret t = .next u ∧ u.cpu = s.cpu ∧ u.mem = t.mem

/-! ### System instructions -/

/-- 46_system.md R320, R321, R324. -/
def Obligations.NopDiAndEi : Prop :=
  ∀ (s : State),
    (∃ t, exec .nop s = .next t ∧ t = s ∧ fits .nop [0x00] 4 s t) ∧
    (∃ t, exec .di s = .next t ∧ t = ({ s with cpu := { s.cpu with ime := false } }).intRecompute ∧
      fits .di [0xF3] 4 s t) ∧
    (∃ t, exec .ei s = .next t ∧
      t = ({ s with cpu := { s.cpu with ime := true, minIntTime := s.cc + 1 } }).intRecompute ∧
      fits .ei [0xFB] 4 s t)

/-- 46_system.md R322: the three cases of `HALT`. -/
def Obligations.HaltHasThreeCases : Prop :=
  ∀ (s : State),
    let c := s.timerCatchUp s.cc
    let next := c.busRead s.cpu.pc
    ∃ t, exec .halt s = .next t ∧ fits .halt [0x76] 4 s t ∧
      (c.pending ≠ 0 → s.cpu.ime = false →
        t = { next.2 with cpu := { s.cpu with latch := next.1, prefetched := true } }) ∧
      (c.pending ≠ 0 → s.cpu.ime = true → t = { c with cpu := { s.cpu with pc := s.cpu.pc - 1 } }) ∧
      (c.pending = 0 →
        t = ({ next.2 with
          cpu := { s.cpu with latch := next.1, pc := s.cpu.pc + 1, prefetched := true, halted := true } }).intRecompute)

/-- 46_system.md R323: the speed switch and the stop proper. -/
def Obligations.StopSwitchesSpeedOrStops : Prop :=
  ∀ (s : State),
    let c := ({ s with cpu := { s.cpu with pc := s.cpu.pc + 1 } }).timerCatchUp s.cc
    let d := ({ c with timer := { c.timer with divBase := s.cc } }).timaReschedule
    let r := d.rtcAdvance s.cc
    let m := d.dmaCatchUp s.cc
    ∃ t, exec .stop s = .next t ∧ fits .stop [0x10, 0x00] 4 s t ∧
      (s.cgb = true → s.io.prepare = true →
        t = (({ r with
          cpu := { s.cpu with pc := s.cpu.pc + 1, doubleSpeed := !s.cpu.doubleSpeed, halted := true }
          io := { r.io with prepare := false } }).setSlot .unhalt
            (some (s.cc + 0x20000 + (if s.cpu.doubleSpeed then 0 else 8)))).intRecompute) ∧
      ((s.cgb = false ∨ s.io.prepare = false) →
        t = (({ m with
          cpu := { s.cpu with pc := s.cpu.pc + 1, halted := true, stopped := true, stopStart := s.cc }
          }).setSlot .unhalt none).intRecompute)

/-- 46_system.md R325: the prefix only fetches its second byte. -/
def Obligations.PrefixIsTransparent : Prop :=
  ∀ (s : State), ∃ i t, decode [0xCB#8, s.fetch8.1] = .ok i [] ∧ exec .prefixCb s = .next t ∧
    exec .prefixCb s = exec i s.fetch8.2

/-- 46_system.md R327, 30_encoding.md R156. -/
def Obligations.UndefinedOpcodesLockTheCpuUp : Prop :=
  ∀ (op : Byte) (s : State),
    op ∈ [0xD3#8, 0xDB, 0xDD, 0xE3, 0xE4, 0xEB, 0xEC, 0xED, 0xF4, 0xFC, 0xFD] →
    ∃ i t, decode [op] = .ok i [] ∧ i ∈ undefined ∧ exec i s = .next t ∧ fits i [op] 4 s t ∧
      t = { s with
        cpu := { s.cpu with halted := true }
        io := { s.io with ie := 0x00 }
        sched := { s.sched with unhalt := none, interrupts := none } }

/-- 46_system.md R327, 70_reset_and_hazards.md R568: in every state that meets the invariant, no step but a host's reset
or load ends the locked-up state; the CPU's registers and `pc` stay as they are. -/
def Obligations.LockedUpUntilReset : Prop :=
  ∀ (s t : State), s.Inv → lockedUp s →
    (∀ r q, s.nextCall ≠ some (.reset r, q)) →
    (∀ r q, s.nextCall ≠ some (.load r, q)) →
    step s = .next t →
    lockedUp t ∧
    { t.cpu with stopStart := s.cpu.stopStart, minIntTime := s.cpu.minIntTime } = s.cpu

/-! ### Interrupts, halt and stop -/

/-- 60_exceptions.md R345, R346: a request only sets bits, and the slot is the function of the state R346 gives. -/
def Obligations.InterruptSlotIsAFunctionOfTheState : Prop :=
  ∀ (bits : BitVec 5) (s : State),
    s.requestIrqs bits = ({ s with io := { s.io with ifr := s.io.ifr ||| bits } }).intRecompute ∧
    ((s.cpu.stopped = false ∧ (∃ b, b < 5 ∧ s.io.ifr.getLsbD b = true ∧ s.io.ie.getLsbD b = true) ∧
        (s.cpu.ime = true ∨ s.cpu.halted = true)) →
      s.intRecompute = { s with sched := { s.sched with interrupts := some s.cpu.minIntTime } }) ∧
    (¬(s.cpu.stopped = false ∧ (∃ b, b < 5 ∧ s.io.ifr.getLsbD b = true ∧ s.io.ie.getLsbD b = true) ∧
        (s.cpu.ime = true ∨ s.cpu.halted = true)) →
      s.intRecompute = { s with sched := { s.sched with interrupts := none } })

/-- 60_exceptions.md R349, R350, R351: what a dispatch saves, changes and jumps to. `hi` is the machine at the sampling
point after the push of the high byte, `lo` after that of the low byte; the pending set of `hi` chooses the vector, and
an empty one cancels the dispatch. -/
def Obligations.InterruptDispatchEntersTheVector : Prop :=
  ∀ (s : State),
    let ret := if s.cpu.prefetched then s.cpu.pc - 1 else s.cpu.pc
    let hi0 := ({ s with cc := s.cc + 8, cpu := { s.cpu with
      prefetched := false, pc := ret, ime := false, sp := s.cpu.sp - 1 } }).memWrite (s.cpu.sp - 1) (hiByte ret)
    let hi := hi0.timerCatchUp hi0.cc
    let lo := ({ hi with cpu := { hi.cpu with sp := s.cpu.sp - 2 } }).memWrite (s.cpu.sp - 2) (loByte ret)
    let t := s.interruptDispatch
    t.cc = s.cc + 20 ∧ t.mem = lo.mem ∧ t.sched.interrupts = t.interruptDeadline ∧
    { t.cpu with pc := ret } = { s.cpu with prefetched := false, pc := ret, ime := false, sp := s.cpu.sp - 2 } ∧
    (hi.pending = 0 → t.cpu.pc = 0x0000 ∧ t.io = lo.io) ∧
    (∀ b, b < 5 → hi.pending.getLsbD b = true → (∀ j, j < b → hi.pending.getLsbD j = false) →
      t.cpu.pc.toNat = 0x40 + 8 * b ∧ t.io = { lo.io with ifr := lo.io.ifr &&& ~~~(1#5 <<< b) })

/-- 60_exceptions.md R348: the INTERRUPTS slot wakes a halted CPU whatever `ime` is, and dispatches if it is set. -/
def Obligations.InterruptsSlotWakesAndDispatches : Prop :=
  ∀ (s : State),
    let w := if s.cpu.halted then
        { s with
          cc := s.cc + s.params.haltWakeDelay
          cpu := { s.cpu with halted := false }
          sched := { s.sched with unhalt := none } }
      else s
    s.fire .interrupts = (if s.cpu.ime then w.interruptDispatch else w).intRecompute

/-- 60_exceptions.md R341, R342, R348, R352: in a run, a machine whose only due slot is INTERRUPTS dispatches at this
boundary, whatever instruction comes next. -/
def Obligations.StepTakesADueInterrupt : Prop :=
  ∀ (s : State) (m : Int), s.sched.endRun.isSome = true → s.cannotRun = none → s.cpu.stopped = false → s.cpu.ime = true →
    s.sched.interrupts = some m → m ≤ s.cc →
    (∀ sl, sl ≠ .interrupts → sl ≠ .endRun → reached (s.sched.time sl) s.cc = false) →
    step s = .next (s.fire .interrupts) ∧ (s.fire .interrupts).cpu.ime = false ∧
    (s.fire .interrupts).cpu.sp = s.cpu.sp - 2 ∧
    (s.fire .interrupts).cc = s.cc + 20 + (if s.cpu.halted then (s.params.haltWakeDelay : Int) else 0)

/-- 60_exceptions.md R343: in a run, the halted CPU moves to the first value at or past the deadline that keeps its phase of 4. -/
def Obligations.HaltedCpuKeepsItsPhase : Prop :=
  ∀ (s : State) (m : Int), s.sched.endRun.isSome = true → s.cannotRun = none → s.cpu.halted = true →
    s.runMin = some m → s.cc < m →
    ∃ k : Int, 0 < k ∧ step s = .next { s with cc := s.cc + 4 * k } ∧ m ≤ s.cc + 4 * k ∧ s.cc + 4 * (k - 1) < m

/-- 60_exceptions.md R356, R357: the UNHALT slot removes the time of a stop from every device's time line. -/
def Obligations.UnhaltEndsTheStop : Prop :=
  ∀ (s : State),
    let d := s.cc - s.cpu.stopStart
    let shift : Option Int → Option Int := fun x => x.map (fun y => y + d)
    let e := ({ s with
      sched := { s.sched with
        blit := shift s.sched.blit, serial := shift s.sched.serial, oamDma := shift s.sched.oamDma,
        hdma := shift s.sched.hdma, tima := shift s.sched.tima, video := shift s.sched.video,
        interrupts := shift s.sched.interrupts }
      dma := { s.dma with last := shift s.dma.last }
      timer := { s.timer with divBase := s.cc, timaLast := s.cc } }).extResume d
    let wakeUp : State → State := fun x =>
      (({ x with cpu := { x.cpu with halted := false } }).setSlot .unhalt none).intRecompute
    (s.cpu.stopped = true →
      s.fire .unhalt = wakeUp ({ e with cpu := { s.cpu with stopped := false } }).timaReschedule) ∧
    (s.cpu.stopped = false → s.fire .unhalt = wakeUp s)

/-- 61_scheduler.md R400, R405: the least deadline fires first, the lower index among equal ones, END last. In a run a
reached deadline fires the slot chosen (60_exceptions.md R341); OAMDMA and TIMA are the catch-up of their engine (61_scheduler.md R406,
60_exceptions.md R369, 64_oamdma.md R527); an external slot calls its handler, which leaves the slot DISABLED or later than
`cc` and changes nothing 20_memory.md R112 keeps from it (a deadline it leaves too early counts as DISABLED, log 6; what it
does is an input, log 5). -/
def Obligations.NextSlotFollowsTheFixedOrder : Prop :=
  ∀ (s : State),
    let due : Slot → Prop := fun sl =>
      sl ≠ .endRun ∧ (s.cpu.stopped = true → sl = .unhalt) ∧ ∃ x, s.sched.time sl = some x ∧ x ≤ s.cc
    ((∀ sl, ¬due sl) → s.nextSlot = .endRun) ∧
    (∀ sl x y, due sl → s.sched.time s.nextSlot = some x → s.sched.time sl = some y →
      due s.nextSlot ∧ x ≤ y ∧ (x = y → slotIndex s.nextSlot ≤ slotIndex sl)) ∧
    (∀ sl, due sl → ∃ x, s.sched.time s.nextSlot = some x) ∧
    (s.sched.endRun.isSome = true → s.cannotRun = none → reached s.runMin s.cc = true →
      step s = .next (s.fire s.nextSlot)) ∧
    s.fire .oamDma = s.dmaCatchUp s.cc ∧ s.fire .tima = s.timerCatchUp s.cc ∧
    (∀ x : ExtSlot,
      let t := s.fire x.slot
      (∀ y, t.sched.time x.slot = some y → s.cc < y) ∧
      t.cc = s.cc ∧ t.cpu = s.cpu ∧ t.timer = s.timer ∧ t.bus = s.bus ∧ t.mapper = s.mapper ∧ t.rtc = s.rtc ∧
      t.dma = s.dma ∧ t.sched.unhalt = s.sched.unhalt ∧ t.sched.endRun = s.sched.endRun ∧
      t.sched.oamDma = s.sched.oamDma ∧ t.sched.tima = s.sched.tima ∧
      (∀ st, st ≠ .vram → t.mem.get st = s.mem.get st) ∧ (x ≠ .hdma → t.mem = s.mem) ∧
      t.ext.log = .fire x s.cc :: s.ext.log ∧
      (s.ext.answers = [] → t.io = s.io ∧ t.mem = s.mem ∧ t.sched = s.sched.set x.slot none) ∧
      (∀ ans r, s.ext.answers = ans :: r →
        t.io = { s.io with ifr := s.io.ifr ||| ans.irq } ∧ t.ext.answers = r ∧
        (ans.sets = [] → t.sched.time x.slot = none)) ∧
      (∃ u, handlerDoes (x = .hdma) (.fire x s.cc) { s with sched := s.sched.set x.slot none } u ∧
        t = { u with sched := u.sched.set x.slot ((u.sched.time x.slot).filter (fun y => s.cc < y)) })) ∧
    (∀ d, handlerDoes false (.resume d s.cc) s (s.extResume d))

/-- 61_scheduler.md R410: a rebase brings the devices up to date and lowers every deadline and stamp by the same delta,
so that every difference between `cc` and a stamp is kept (R411); `minIntTime` saturates at 0. The delta is the model's
choice (log 7). It happens at the end of a run whose `cc` has reached the threshold, after the END slot is disabled and
`RunFor` has returned the cycles run (60_exceptions.md R341), which the model logs (log 8). -/
def Obligations.RebaseLowersEveryStampAlike : Prop :=
  ∀ (s : State),
    let d : Int := 2147483648
    let c := ((s.timerCatchUp s.cc).dmaCatchUp s.cc).rtcAdvance s.cc
    let t := s.rebase
    t.cc = s.cc - d ∧ (∀ sl, t.sched.time sl = (c.sched.time sl).map (fun x => x - d)) ∧
    t.timer = { c.timer with timaLast := c.timer.timaLast - d, divBase := c.timer.divBase - d } ∧
    t.rtc = { c.rtc with last := c.rtc.last - d } ∧ t.bus = { c.bus with time := c.bus.time - d } ∧
    t.dma = { c.dma with last := c.dma.last.map (fun x => x - d) } ∧
    t.cpu = { s.cpu with stopStart := s.cpu.stopStart - d, minIntTime := max (s.cpu.minIntTime - d) 0 } ∧
    t.mem = c.mem ∧ t.io = c.io ∧ t.mapper = s.mapper ∧
    t.timer.div t.cc = c.timer.div s.cc ∧ t.openBus = c.openBus ∧
    t.dmaDue t.cc = c.dmaDue s.cc ∧ t.rtcElapsed t.cc = c.rtcElapsed s.cc ∧
    (let u := { s with
       sched := { s.sched with endRun := none }
       ext := { s.ext with log := .runReturned (s.cc - s.ext.runStart) :: s.ext.log } }
     s.fire .endRun = if d ≤ s.cc then u.rebase else u)

/-! ### The whole machine -/

/-- Every step keeps the invariant, from every state that meets it: memories stay canonical (log 4), the low nibble of
`F` stays 0 (10_state.md R26), `stopped` implies `halted` (R30), an idle engine is at rest and an active one is due 4
cycles after its last step (64_oamdma.md R521), the TIMA slot is at the next overflow (60_exceptions.md R368), the
INTERRUPTS slot is enabled exactly when R346 says, a loaded cartridge is well formed (62_mbc.md R434), the record `RESET`
is one that these rules allow (70_reset_and_hazards.md R551), the clock's divisor stays positive (63_rtc.md R508). -/
def Obligations.EveryStepKeepsTheInvariant : Prop :=
  ∀ (s t : State), s.Inv → step s = .next t → t.Inv

/-- The reset state meets the invariant (with the parameters of log 1 and the cartridge of log 3). -/
def Obligations.ResetMeetsTheInvariant : Prop := State.reset.Inv

/-- 70_reset_and_hazards.md R550, R551, 62_mbc.md R480, 63_rtc.md R509: a reset leaves the values of the record `RESET`,
whatever it holds, and the values the spec suggests for it are those listed, for both models. The host's reset keeps the
memories, the cartridge and the parameters, restores the clock's registers from the sidecar file or takes those of
`RESET`, reschedules the timer, and calls the external devices once, which may set their own slots and request
interrupts. That `hostLast` is the host's time, that a restored `sub` is taken within a second (log 11), the stamp of the
open bus (log 9) and the call of the devices (log 8) are the model's choices. -/
def Obligations.ResetLeavesTheListedValues : Prop :=
  ∀ (p : Params) (c : Option Cart) (mem : Mems) (regs : RtcContents) (q : Int) (ext : External) (k : Word)
    (sidecar : Option RtcContents) (s : State),
    let u := State.atReset p c mem regs q ext
    let g := ResetRecord.suggested .dmg k
    let h := ResetRecord.suggested .cgb k
    let r := s.params.reset
    let w := sidecar.getD r.rtc
    let t := s.hostReset sidecar
    (u.cc = p.reset.cc ∧ u.cpu = p.reset.cpu ∧ u.io = p.reset.io ∧ u.mem = mem ∧ u.cart = c ∧ u.params = p ∧
      u.timer = { divBase := p.reset.cc - p.reset.divCounter.toNat, tima := p.reset.tima, tma := p.reset.tma,
                  tac := p.reset.tac, timaLast := p.reset.cc } ∧
      u.bus.value = p.reset.busValue ∧ u.openBus = 0xFF ∧ (∀ sl, u.sched.time sl = none) ∧
      u.dma.src = .off ∧ u.dma.pos = 0xFE ∧ u.dma.startPos = 0 ∧ u.dma.last = none ∧ u.rtc.last = p.reset.cc) ∧
    [g, h].all (fun x =>
      x.cc = 0 && x.cpu.sp = 0xFFFE && x.cpu.pc = 0x0100 && !x.cpu.ime && x.cpu.minIntTime = 0 && !x.cpu.halted &&
      !x.cpu.stopped && x.cpu.stopStart = 0 && !x.cpu.prefetched && x.cpu.latch = 0x00 && !x.cpu.doubleSpeed &&
      x.io.ifr = 0x01 && x.io.ie = 0x00 && !x.io.prepare && x.io.vbk = 0 && x.io.svbk = 0 &&
      x.tima = 0 && x.tma = 0 && x.tac = 0 && x.busValue = 0xFF && !x.mapper.ramEnable && x.mapper.romBankReg = 1 &&
      x.mapper.ramBankReg = 0 && x.mapper.bank2 = 0 && !x.mapper.mode && x.mapper.latchPrev = 0xFF &&
      x.rtc = RtcContents.zero && x.divCounter = k) = true ∧
    (g.cpu.a = 0x01 ∧ g.cpu.f = 0xB0 ∧ g.cpu.b = 0x00 ∧ g.cpu.c = 0x13 ∧ g.cpu.d = 0x00 ∧ g.cpu.e = 0xD8 ∧
      g.cpu.h = 0x01 ∧ g.cpu.l = 0x4D ∧ g.io.dma = 0xFF) ∧
    (h.cpu.a = 0x11 ∧ h.cpu.f = 0x80 ∧ h.cpu.b = 0x00 ∧ h.cpu.c = 0x00 ∧ h.cpu.d = 0xFF ∧ h.cpu.e = 0x56 ∧
      h.cpu.h = 0x00 ∧ h.cpu.l = 0x0D ∧ h.io.dma = 0x00) ∧
    State.reset.params.reset = ResetRecord.suggested .dmg 0xABCC ∧
    (t.cc = r.cc ∧ t.cpu = r.cpu ∧ t.mem = s.mem ∧ t.cart = s.cart ∧ t.params = s.params ∧
      t.mapper = r.mapper.atReset s.cart ∧ t.dma = OamDma.idle ∧ t.bus.value = r.busValue ∧ t.openBus = 0xFF ∧
      { t.io with ifr := r.io.ifr } = r.io ∧ (∃ irq, t.io.ifr = r.io.ifr ||| irq) ∧
      t.timer.divBase = r.cc - r.divCounter.toNat ∧ t.timer.timaLast = r.cc ∧ t.timer.tima = r.tima ∧
      t.timer.tma = r.tma ∧ t.timer.tac = r.tac ∧ t.sched.tima = t.timaDeadline ∧
      t.sched.interrupts = t.interruptDeadline ∧ t.sched.unhalt = none ∧ t.sched.endRun = none ∧
      t.sched.oamDma = none ∧ t.rtc.live = w.live ∧ t.rtc.latched = w.latched ∧ t.rtc.layoutB = w.layoutB ∧
      t.rtc.sub = w.sub % 8388608 ∧ t.rtc.last = r.cc ∧ t.rtc.divisorOffset = 0 ∧ t.rtc.baseTime = s.hostTime.1 ∧
      t.rtc.hostLast = s.hostTime.1) ∧
    (s.ext.answers = [] → t.io = r.io ∧ t.sched.blit = none ∧ t.sched.serial = none ∧ t.sched.hdma = none ∧
      t.sched.video = none)

/-! ### Memory, ports and devices -/

/-- 20_memory.md R90, R92 to R96, R98, R101 to R103, R105; `c` is the machine after an active engine is caught up. That a
diverted access puts no gating question, and that the question of the OAM page is put, and its answer used up, before the
engine's own block is looked at, is the model's choice (log 5). -/
def Obligations.BusReadDecodesEveryAddress : Prop :=
  ∀ (a : Word) (s : State),
    let n := a.toNat
    let c := if n < 0xFF80 ∧ s.dma.last ≠ none then s.dmaCatchUp s.cc else s
    let conflict := n < 0xFF80 ∧ s.dma.last ≠ none ∧ c.dma.pos.toNat < 0xA0 ∧ inConflictArea s.cgb c.dma.src n = true
    let driven : Byte → Byte × State := fun v => (v, { c with bus := { value := v, time := s.cc } })
    let vbk := if s.cgb then s.io.vbk.toNat else 0
    let wbk := if s.cgb then max s.io.svbk.toNat 1 else 1
    let wram : Nat → Byte := fun k => c.byte .wram (if k < 0xD000 then k - 0xC000 else wbk * 0x1000 + (k - 0xD000))
    let oamOpen := c.askOam.1 = true ∧ 0xA0 ≤ c.dma.pos.toNat
    (conflict → s.busRead a = (c.byte .oam c.dma.pos.toNat, c)) ∧
    (¬conflict →
      (n < 0x4000 → s.busRead a = driven (c.byte .rom (s.romBank0 * 0x4000 + n))) ∧
      (0x4000 ≤ n → n < 0x8000 → s.busRead a = driven (c.byte .rom (s.romBankN * 0x4000 + (n - 0x4000)))) ∧
      (0x8000 ≤ n → n < 0xA000 → s.busRead a =
        (if c.askVram.1 then c.byte .vram (vbk * 0x2000 + (n - 0x8000)) else 0xFF, c.askVram.2)) ∧
      (0xA000 ≤ n → n < 0xC000 → s.busRead a = c.cartWindowRead a) ∧
      (0xC000 ≤ n → n < 0xE000 → s.busRead a = (wram n, c)) ∧
      (0xE000 ≤ n → n < 0xFE00 → s.busRead a = (wram (n - 0x2000), c)) ∧
      (0xFE00 ≤ n → n < 0xFEA0 → oamOpen → s.busRead a = (c.byte .oam (n - 0xFE00), c.askOam.2)) ∧
      (0xFEA0 ≤ n → n < 0xFF00 → oamOpen → s.busRead a = (c.byte .oamx (n - 0xFEA0), c.askOam.2)) ∧
      (0xFE00 ≤ n → n < 0xFF00 → ¬oamOpen → s.busRead a = (0xFF, c.askOam.2)) ∧
      (0xFF00 ≤ n → n < 0xFF80 → s.busRead a = c.ioRead a) ∧
      (0xFF80 ≤ n → n < 0xFFFF → s.busRead a = (s.byte .hram (n - 0xFF80), s)) ∧
      (n = 0xFFFF → s.busRead a = (s.io.ie, s)))

/-- 20_memory.md R91 to R93, R97, R98, R101 to R103, R105; a write to the ROM windows, like any other, leaves the ROM image
as it was. When the gating questions are put is the model's choice, as in the reads (log 5). -/
def Obligations.BusWriteDecodesEveryAddress : Prop :=
  ∀ (a : Word) (v : Byte) (s : State),
    let n := a.toNat
    let c := if n < 0xFF80 ∧ s.dma.last ≠ none then s.dmaCatchUp s.cc else s
    let conflict := n < 0xFF80 ∧ s.dma.last ≠ none ∧ c.dma.pos.toNat < 0xA0 ∧ inConflictArea s.cgb c.dma.src n = true
    let vbk := if s.cgb then s.io.vbk.toNat else 0
    let wbk := if s.cgb then max s.io.svbk.toNat 1 else 1
    let wram : Nat → State := fun k =>
      c.setByte .wram (if k < 0xD000 then k - 0xC000 else wbk * 0x1000 + (k - 0xD000)) v
    let oamOpen := c.askOam.1 = true ∧ 0xA0 ≤ c.dma.pos.toNat
    (conflict → s.busWrite a v = c.setByte .oam c.dma.pos.toNat v) ∧
    (¬conflict →
      (n < 0x8000 → s.busWrite a v = ({ c with bus := { value := v, time := s.cc } }).romWrite a v) ∧
      (0x8000 ≤ n → n < 0xA000 → c.askVram.1 = true →
        s.busWrite a v = c.askVram.2.setByte .vram (vbk * 0x2000 + (n - 0x8000)) v) ∧
      (0x8000 ≤ n → n < 0xA000 → c.askVram.1 = false → s.busWrite a v = c.askVram.2) ∧
      (0xA000 ≤ n → n < 0xC000 → s.busWrite a v = c.cartWindowWrite a v) ∧
      (0xC000 ≤ n → n < 0xE000 → s.busWrite a v = wram n) ∧
      (0xE000 ≤ n → n < 0xFE00 → s.busWrite a v = wram (n - 0x2000)) ∧
      (0xFE00 ≤ n → n < 0xFEA0 → oamOpen → s.busWrite a v = c.askOam.2.setByte .oam (n - 0xFE00) v) ∧
      (0xFEA0 ≤ n → n < 0xFF00 → oamOpen → s.cgb = true →
        s.busWrite a v = c.askOam.2.setByte .oamx (n - 0xFEA0) v) ∧
      (0xFE00 ≤ n → n < 0xFF00 → ¬oamOpen → s.busWrite a v = c.askOam.2) ∧
      (0xFEA0 ≤ n → n < 0xFF00 → s.cgb = false → s.busWrite a v = c.askOam.2) ∧
      (0xFF00 ≤ n → n < 0xFF80 → s.busWrite a v = c.ioWrite a v) ∧
      (0xFF80 ≤ n → n < 0xFFFF → s.busWrite a v = s.setByte .hram (n - 0xFF80) v) ∧
      (n = 0xFFFF → s.busWrite a v = ({ s with io := { s.io with ie := v } }).intRecompute)) ∧
    (s.busWrite a v).mem.rom = s.mem.rom

/-- What a bus access does to storage (20_memory.md R84, R90, R91): a write changes at most the one cell it decodes to,
a read changes none, once an active engine is caught up; an access that reaches a handler which itself writes memory is
left out. Storage stays in canonical form. -/
def Obligations.BusAccessesChangeOnlyTheAddressedCell : Prop :=
  ∀ (a : Word) (v : Byte) (st : Store) (k : Nat) (s : State), s.reachesWriter a = false →
    ((s.busWrite a v).byte st k =
      match s.storedCell a v with
      | some (st', k', w) => if st = st' ∧ k = k' then w else (s.busCatchUp a).byte st k
      | none => (s.busCatchUp a).byte st k) ∧
    (s.busRead a).2.mem = (s.busCatchUp a).mem ∧
    (s.dma.last = none → s.busCatchUp a = s) ∧
    (s.mem.wf = true → (s.busWrite a v).mem.wf = true ∧ (s.busRead a).2.mem.wf = true)

/-- 20_memory.md R91, 10_state.md R50, 62_mbc.md R433: no step changes the ROM image, but a cartridge load. A load reads the header, and
either installs the cartridge its type byte and size codes describe and resets the machine, or leaves the instance
unloaded with the category of the failure (62_mbc.md R431, R432, R434, R443, R474, R480,
70_reset_and_hazards.md R550, R552, 93_implementation_defined.md U13). That an image shorter than its size code says
is an invalid header, that a size code not listed is one too, that the bank count is the size code's and not the image's,
that a type without RAM has none whatever its code, the order in which the failures are tested, that the heuristics are the
host's answers, and what becomes of the memories, are the model's choices (log 13); that the result is logged, log 8. -/
def Obligations.NoStepChangesTheRomImage : Prop :=
  ∀ (q : LoadRequest) (s t : State),
    ((∀ r u, s.nextCall ≠ some (.load r, u)) → step s = .next t → t.mem.rom = s.mem.rom) ∧
    (q.file = none → loadCart q = .error .ioFailure) ∧
    (∀ f, q.file = some f →
      let row := cartTypes.find? (fun x => x.1 = (f.image.read 0x0147).toNat)
      let rom := (f.image.read 0x0148).toNat
      let ram := (f.image.read 0x0149).toNat
      (f.size < 0x0150 → loadCart q = .error .invalidHeader) ∧
      (0x0150 ≤ f.size → row = none → loadCart q = .error .unsupportedMapper) ∧
      (0x0150 ≤ f.size → ∀ x, row = some x →
        (rom ≤ 8 → (x.2.ram = true → ram ≤ 5) → 2 * 2 ^ rom * 0x4000 ≤ f.size →
          ∃ k, loadCart q = .ok k ∧ k.romBanks = 2 * 2 ^ rom ∧
            k.ramBanks = (if x.2.ram then [0, 0, 1, 4, 16, 8].getD ram 0 else 0) ∧
            k.ramBytes = (if x.2.ram then [0, 2048, 0x2000, 0x8000, 0x20000, 0x10000].getD ram 0 else 0) ∧
            k.hasBattery = x.2.battery ∧ k.hasRtc = x.2.rtc ∧ k.rumble = x.2.rumble ∧
            (k.variant = x.2.variant ∨
              (k.variant = .wisdomTree ∧ x.1 = 0x00 ∧ q.wisdomTree = true ∧ 2 < k.romBanks)) ∧
            (k.multicart = true → x.2.variant = .mbc1 ∧ k.romBanks = 64 ∧ q.multicart = true)) ∧
        ((8 < rom ∨ (x.2.ram = true ∧ 5 < ram) ∨ f.size < 2 * 2 ^ rom * 0x4000) →
          loadCart q = .error .invalidHeader))) ∧
    (∀ e, loadCart q = .error e →
      s.hostCall (.load q) = { s with cart := none, ext := { s.ext with log := .loaded (some e) :: s.ext.log } }) ∧
    (∀ k f, loadCart q = .ok k → q.file = some f →
      let u := s.hostCall (.load q)
      u.cart = some k ∧ u.mem = { s.mem with rom := f.image, sram := Memory.ofCells q.battery } ∧
      u.cpu = s.params.reset.cpu ∧ u.mapper = s.params.reset.mapper.atReset (some k) ∧ u.sched.endRun = none ∧
      u.rtc.live = (q.sidecar.getD s.params.reset.rtc).live ∧ u.ext.log.head? = some (.loaded none))

/-- 20_memory.md R106, R112, R114 and the read values of 10_state.md R35 to R40 and 60_exceptions.md R361, R363, R365, R366.
That a `DIV` read catches the timer up (R114) where R361 says that no state changes is the model's choice (log 15). A port
of an external device reads as its handler answers, and the handler does what R112 allows it; its answer is an input
(log 5). -/
def Obligations.PortsReadAsListed : Prop :=
  ∀ (s : State),
    let c := s.timerCatchUp s.cc
    s.ioRead 0xFF00 = s.poll.2.extIoRead 0xFF00 ∧
    (s.ioRead 0xFF04).1.toNat = ((s.cc - s.timer.divBase) / 256 % 256).toNat ∧ (s.ioRead 0xFF04).2 = c ∧
    s.ioRead 0xFF05 = (c.timer.tima, c) ∧ s.ioRead 0xFF06 = (s.timer.tma, s) ∧
    (s.ioRead 0xFF07).1.toNat = 0xF8 + s.timer.tac.toNat ∧ (s.ioRead 0xFF07).2 = s ∧
    (s.ioRead 0xFF0F).2 = (c.extIoRead 0xFF0F).2 ∧
    (s.ioRead 0xFF0F).1.toNat = 0xE0 + (c.extIoRead 0xFF0F).2.io.ifr.toNat ∧
    s.ioRead 0xFF46 = (s.io.dma, s) ∧
    (s.cgb = false → s.ioRead 0xFF4D = (0xFF, s) ∧ s.ioRead 0xFF4F = (0xFF, s) ∧ s.ioRead 0xFF70 = (0xFF, s)) ∧
    (s.cgb = true →
      (s.ioRead 0xFF4D).1.toNat = 0x7E + 128 * s.cpu.doubleSpeed.toNat + s.io.prepare.toNat ∧
      (s.ioRead 0xFF4D).2 = s ∧
      (s.ioRead 0xFF4F).1.toNat = 0xFE + s.io.vbk.toNat ∧ (s.ioRead 0xFF4F).2 = s ∧
      (s.ioRead 0xFF70).1.toNat = 0xF8 + s.io.svbk.toNat ∧ (s.ioRead 0xFF70).2 = s) ∧
    (∀ a : Word, a ∉ [0xFF00#16, 0xFF04, 0xFF05, 0xFF06, 0xFF07, 0xFF0F, 0xFF46, 0xFF4D, 0xFF4F, 0xFF70] →
      s.ioRead a = s.extIoRead a) ∧
    (∀ a : Word,
      (s.ext.answers = [] → (s.extIoRead a).1 = 0xFF) ∧
      (∀ ans r, s.ext.answers = ans :: r → (s.extIoRead a).1 = ans.value) ∧
      handlerDoes (0xFF51 ≤ a.toNat ∧ a.toNat ≤ 0xFF55) (.ioRead a s.cc) s (s.extIoRead a).2)

/-- 20_memory.md R107, R112 and the write effects of 10_state.md R35, R38 to R40, 60_exceptions.md R362, R364 to R366 and
64_oamdma.md R523, R524. What an external device's handler does at a write is an input (log 5), within what R112 allows
it. -/
def Obligations.PortsAreWrittenAsListed : Prop :=
  ∀ (v : Byte) (s : State),
    let c := s.timerCatchUp s.cc
    let k := (c.extIoRead 0xFF0F).2
    let page := v.toNat
    s.ioWrite 0xFF04 v = ({ c with timer := { c.timer with divBase := s.cc } }).timaReschedule ∧
    s.ioWrite 0xFF05 v = ({ c with timer := { c.timer with tima := v } }).timaReschedule ∧
    s.ioWrite 0xFF06 v = { c with timer := { c.timer with tma := v } } ∧
    s.ioWrite 0xFF07 v = ({ c with timer := { c.timer with tac := BitVec.ofNat 3 v.toNat } }).timaReschedule ∧
    s.ioWrite 0xFF0F v = ({ k with io := { k.io with ifr := BitVec.ofNat 5 v.toNat } }).intRecompute ∧
    s.ioWrite 0xFF46 v = { s with
      io := { s.io with dma := v }
      dma := { s.dma with
        src := if page < 0x80 then .rom else if page < 0xA0 then .vram else if page < 0xC0 then .sram
          else if page < 0xE0 then .wram else if s.cgb then .invalid else .wram
        startPos := s.dma.pos + 2
        last := some s.cc }
      sched := { s.sched with oamDma := some (s.cc + 4) } } ∧
    (s.cgb = false → s.ioWrite 0xFF4D v = s ∧ s.ioWrite 0xFF4F v = s ∧ s.ioWrite 0xFF70 v = s) ∧
    (s.cgb = true →
      s.ioWrite 0xFF4D v = { s with io := { s.io with prepare := v.getLsbD 0 } } ∧
      s.ioWrite 0xFF4F v = { s with io := { s.io with vbk := BitVec.ofNat 1 v.toNat } } ∧
      s.ioWrite 0xFF70 v = { s with io := { s.io with svbk := BitVec.ofNat 3 v.toNat } }) ∧
    (∀ a : Word, a ∉ [0xFF04#16, 0xFF05, 0xFF06, 0xFF07, 0xFF0F, 0xFF46, 0xFF4D, 0xFF4F, 0xFF70] →
      s.ioWrite a v = s.extIoWrite a v) ∧
    (∀ a : Word, handlerDoes (0xFF51 ≤ a.toNat ∧ a.toNat ≤ 0xFF55) (.ioWrite a v s.cc) s (s.extIoWrite a v))

/-- 60_exceptions.md R367: catching the timer up to `t1` and then to a later `t2` is catching it up to `t2`. -/
def Obligations.TimerCatchUpIsAdditive : Prop :=
  ∀ (t1 t2 : Int) (s : State), t1 ≤ t2 → (s.timerCatchUp t1).timerCatchUp t2 = s.timerCatchUp t2

/-- 60_exceptions.md R360, R367, R368: before the deadline `TIMA` only counts its ticks; at the deadline, and not
before, the next overflow reloads it from `TMA` and requests the timer interrupt. -/
def Obligations.TimaOverflowsAtItsDeadline : Prop :=
  ∀ (t : Int) (s : State), s.cpu.stopped = false → s.timer.tac.getLsbD 2 = true → s.timer.timaLast < t →
    let p : Int := [1024, 16, 64, 256].getD (s.timer.tac.toNat % 4) 0
    let n := (t - s.timer.divBase) / p - (s.timer.timaLast - s.timer.divBase) / p
    let due := s.timer.divBase +
      ((s.timer.timaLast - s.timer.divBase) / p + (0x100 - (s.timer.tima.toNat : Int))) * p
    s.timaDeadline = some due ∧ s.timer.timaLast < due ∧
    (t < due → ((s.timerCatchUp t).timer.tima.toNat : Int) = s.timer.tima.toNat + n ∧
      (s.timerCatchUp t).io = s.io) ∧
    (due ≤ t → (s.timerCatchUp t).io.ifr = s.io.ifr ||| 0x04) ∧
    (t = due → (s.timerCatchUp t).timer.tima = s.timer.tma)

/-- 64_oamdma.md R523, R525, R526, R528: from an idle engine, a write of `v` to `DMA` at the stamp `W` copies byte `i` of
the page at `W + 8 + 4·i`, and ends at `W + 648` with the whole page in `oam` and the engine idle again. Here `b j` is
the source byte of position `j`, for every source but a window whose reads a handler answers. The source byte of each
source is that of R528; no read of the engine changes the machine. -/
def Obligations.OamDmaCopiesAByteEveryFourCycles : Prop :=
  ∀ (v p : Byte) (i : Nat) (s : State),
    (s.dma = OamDma.idle → s.cpu.stopped = false → s.window ≠ .special → i < 160 →
      let w := s.ioWrite 0xFF46 v
      let b : Nat → Byte := fun j => (w.dmaSourceByte (BitVec.ofNat 8 j)).1
      let t := w.dmaCatchUp (s.cc + 8 + 4 * (i : Int))
      let e := w.dmaCatchUp (s.cc + 648)
      t.dma.pos.toNat = i ∧ t.dma.last = some (s.cc + 8 + 4 * (i : Int)) ∧
      (∀ j, t.byte .oam j = if j ≤ i then b j else s.byte .oam j) ∧
      e.dma = OamDma.idle ∧ e.sched.oamDma = none ∧
      (∀ j, e.byte .oam j = if j < 160 then b j else s.byte .oam j) ∧
      (∀ st, st ≠ .oam → e.mem.get st = s.mem.get st)) ∧
    (let a := 256 * s.io.dma.toNat + p.toNat
     let k := if 0xE000 ≤ a then a - 0x2000 else a
     let vbk := if s.cgb then s.io.vbk.toNat else 0
     let wbk := if s.cgb then max s.io.svbk.toNat 1 else 1
     (s.dma.src = .rom → s.dmaSourceByte p =
       (s.byte .rom (if a < 0x4000 then s.romBank0 * 0x4000 + a else s.romBankN * 0x4000 + (a - 0x4000)), s)) ∧
     (s.dma.src = .vram → s.dmaSourceByte p = (s.byte .vram (vbk * 0x2000 + (a - 0x8000)), s)) ∧
     (s.dma.src = .wram → s.dmaSourceByte p =
       (s.byte .wram (if k < 0xD000 then k - 0xC000 else wbk * 0x1000 + (k - 0xD000)), s)) ∧
     (s.dma.src = .invalid → s.dmaSourceByte p = (0xFF, s)) ∧
     (s.dma.src = .sram →
       (s.window = .closed → s.dmaSourceByte p = (0xFF, s)) ∧
       (∀ w, s.window = .ram w → s.dmaSourceByte p = (s.byte .sram (s.ramOffset a), s)) ∧
       (s.window = .halfBytes → s.dmaSourceByte p = (0xF0#8 ||| s.byte .sram ((a - 0xA000) % 512), s)) ∧
       (∀ n, s.window = .rtc n → s.dmaSourceByte p = (s.rtc.latched.read n, s))))

/-- 64_oamdma.md R530, R533: the conflict areas by model and source; the I/O window, HRAM, `IE` and the OAM page are in
none. -/
def Obligations.ConflictAreasAreAsListed : Prop :=
  ∀ (cgb : Bool) (n : Nat),
    let cartBus := n < 0x8000 ∨ (0xA000 ≤ n ∧ n < 0xC000)
    let dmgBus := n < 0x8000 ∨ (0xA000 ≤ n ∧ n < 0xFE00)
    (inConflictArea cgb .rom n = true ↔ if cgb then cartBus else dmgBus) ∧
    (inConflictArea cgb .sram n = true ↔ if cgb then cartBus else dmgBus) ∧
    (inConflictArea cgb .wram n = true ↔ if cgb then 0xC000 ≤ n ∧ n < 0xE000 else dmgBus) ∧
    (inConflictArea cgb .vram n = true ↔ 0x8000 ≤ n ∧ n < 0xA000) ∧
    (inConflictArea true .invalid n = true ↔ n < 0xC000) ∧
    inConflictArea cgb .off n = false ∧
    (∀ src, 0xFE00 ≤ n → inConflictArea cgb src n = false)

/-- 62_mbc.md R433, R440, R445, R436, R437, R470 to R474: the registers a write to the ROM windows sets, and the banks they
select, for every variant; no other access changes a register (20_memory.md R97). On the special variants the model
chooses what the spec leaves open: the zero adjustment, the writes that select nothing, and the handler's banks (log 14). -/
def Obligations.MapperRegistersSelectTheBanks : Prop :=
  ∀ (a : Word) (v : Byte) (s : State), a.toNat < 0x8000 →
    let n := a.toNat
    let m := s.mapper
    let c := s.cartridge
    let x := v.toNat
    let on : Bool := v &&& s.params.ramgMask = 0x0A
    let nz : Nat → Nat := fun r => if r = 0 then 1 else r
    let hi := m.bank2.toNat
    let reg := m.romBankReg.toNat
    (c.variant = .plain →
      (s.romWrite a v).mapper = (if n < 0x2000 then { m with ramEnable := on } else m) ∧
      s.romBank0 = 0 ∧ s.romBankN = 1 % c.romBanks) ∧
    (c.variant = .mbc1 →
      (s.romWrite a v).mapper =
        (if n < 0x2000 then { m with ramEnable := on }
        else if n < 0x4000 then { m with romBankReg := BitVec.ofNat 9 (x % 32) }
        else if n < 0x6000 then { m with bank2 := BitVec.ofNat 2 (x % 4) }
        else { m with mode := x % 2 = 1 }) ∧
      s.romBank0 = (if m.mode then (if c.multicart then hi * 16 else hi * 32) else 0) % c.romBanks ∧
      s.romBankN = (if c.multicart then hi * 16 + nz reg % 16 else hi * 32 + nz reg) % c.romBanks) ∧
    (c.variant = .mbc2 →
      (s.romWrite a v).mapper =
        (if 0x4000 ≤ n then m
        else if n / 256 % 2 = 0 then { m with ramEnable := on }
        else { m with romBankReg := BitVec.ofNat 9 (x % 16) }) ∧
      s.romBank0 = 0 ∧ s.romBankN = nz reg % c.romBanks) ∧
    (c.variant = .mbc3 →
      (s.romWrite a v).mapper =
        (if n < 0x2000 then { m with ramEnable := on }
        else if n < 0x4000 then
          { m with romBankReg := BitVec.ofNat 9 (if 128 < c.romBanks ∨ 4 < c.ramBanks then x else x % 128) }
        else if n < 0x6000 then { m with ramBankReg := BitVec.ofNat 4 (x % 16) }
        else { m with latchPrev := v }) ∧
      s.romBank0 = 0 ∧ s.romBankN = nz reg % c.romBanks) ∧
    (c.variant = .mbc5 →
      (s.romWrite a v).mapper =
        (if n < 0x2000 then { m with ramEnable := on }
        else if n < 0x3000 then { m with romBankReg := BitVec.ofNat 9 (reg / 256 * 256 + x) }
        else if n < 0x4000 then { m with romBankReg := BitVec.ofNat 9 (x % 2 * 256 + reg % 256) }
        else if n < 0x6000 then { m with ramBankReg := BitVec.ofNat 4 (if c.rumble then x % 8 else x % 16) }
        else m) ∧
      s.romBank0 = 0 ∧ s.romBankN = reg % c.romBanks) ∧
    ((c.variant = .huc1 ∨ c.variant = .huc3) →
      (s.romWrite a v).mapper =
        (if n < 0x2000 then { m with modeReg := BitVec.ofNat 8 (x % 16) }
        else if n < 0x4000 then
          { m with romBankReg := BitVec.ofNat 9 (if c.variant = .huc1 then x % 64 else x % 128) }
        else if n < 0x6000 then { m with ramBankReg := BitVec.ofNat 4 (x % 4) }
        else m) ∧
      s.romBank0 = 0 ∧ s.romBankN = (if c.zeroAdjust then nz reg else reg) % c.romBanks) ∧
    (c.variant = .camera →
      (s.romWrite a v).mapper =
        (if n < 0x2000 then { m with ramEnable := on }
        else if n < 0x4000 then { m with romBankReg := BitVec.ofNat 9 (x % 64) }
        else if n < 0x6000 then
          (if x / 16 % 2 = 1 then { m with modeReg := 0x10 }
          else { m with modeReg := 0x00, ramBankReg := BitVec.ofNat 4 (x % 16) })
        else m) ∧
      s.romBank0 = 0 ∧ s.romBankN = reg % c.romBanks) ∧
    (c.variant = .mmm01 →
      (∀ ans r, s.ext.special = ans :: r → (s.romWrite a v).mapper = { m with
        specialBank0 := ans.bank0.getD m.specialBank0, specialBankN := ans.bankN.getD m.specialBankN }) ∧
      (s.ext.special = [] → (s.romWrite a v).mapper = m) ∧
      s.romBank0 = m.specialBank0 % c.romBanks ∧ s.romBankN = m.specialBankN % c.romBanks ∧
      (m.atReset (some c)).specialBank0 = c.romBanks - 2 ∧ (m.atReset (some c)).specialBankN = c.romBanks - 1) ∧
    (c.variant = .wisdomTree →
      (s.romWrite a v).mapper = (if n < 0x4000 then { m with modeReg := BitVec.ofNat 8 (n % 256) } else m) ∧
      s.romBank0 = 2 * m.modeReg.toNat % c.romBanks ∧ s.romBankN = (2 * m.modeReg.toNat + 1) % c.romBanks) ∧
    (∀ b : Word, (s.busRead b).2.mapper = m ∧ (0x8000 ≤ b.toNat → (s.busWrite b v).mapper = m))

/-- 62_mbc.md R481 (a): whatever the mapper's registers hold, every bank shown exists, and so does every RAM byte and
MBC2 half-byte the window reaches. -/
def Obligations.EveryBankShownExists : Prop :=
  ∀ (a : Word) (c : Cart) (s : State), s.Inv → s.cart = some c →
    s.romBank0 < c.romBanks ∧ s.romBankN < c.romBanks ∧
    (a.toNat < 0x8000 → s.romIndex a.toNat < c.romBanks * 0x4000) ∧
    (∀ w, 0xA000 ≤ a.toNat → a.toNat < 0xC000 → s.window = .ram w → s.ramOffset a.toNat < c.ramBytes) ∧
    halfByteIndex a.toNat < 512

/-- 62_mbc.md R438, R439, R440, R446, R451, 20_memory.md R94: the cartridge window. RAM is reached only while enabled, in
the bank the registers select, and a RAM of less than a bank repeats; a disabled window reads the open bus, which decays
after `PULLUP_DELAY`, and loses writes. An MBC3 with a clock shows RAM while no clock register is selected. The special
variants follow R470 to R474: HuC1 and the camera read RAM whatever the enable, HuC3 by its mode, the rest is answered by
the handler, whose accesses always drive the bus (log 14). -/
def Obligations.CartridgeWindowFollowsRamEnable : Prop :=
  ∀ (a : Word) (v : Byte) (s : State), 0xA000 ≤ a.toNat → a.toNat < 0xC000 → s.cartridge.wf = true →
    let c := s.cartridge
    let m := s.mapper
    let driven : Byte → State → State := fun x t => { t with bus := { value := x, time := s.cc } }
    let i := (a.toNat - 0xA000) % 512
    let open_ := if s.cc < s.bus.time + s.params.pullupDelay then s.bus.value else 0xFF
    let clock : Prop := c.variant = .mbc3 ∧ c.hasRtc = true ∧ 8 ≤ m.ramBankReg.toNat ∧ m.ramBankReg.toNat ≤ 12
    let off := if c.ramBytes < 0x2000 then (a.toNat - 0xA000) % c.ramBytes
      else ramBankRaw c.variant m % c.ramBanks * 0x2000 + (a.toNat - 0xA000)
    let read : Prop := s.cartWindowRead a = (s.byte .sram off, driven (s.byte .sram off) s)
    let written : Prop := s.cartWindowWrite a v = driven v (s.setByte .sram off v)
    let readOpen : Prop := s.cartWindowRead a = (open_, s)
    let lost : Prop := s.cartWindowWrite a v = s
    let handled : Prop := ∀ ans r, s.ext.special = ans :: r →
      (s.cartWindowRead a).1 = ans.value ∧ (s.cartWindowRead a).2.bus = { value := ans.value, time := s.cc } ∧
      (s.cartWindowWrite a v).bus = { value := v, time := s.cc } ∧
      (s.cartWindowWrite a v).ext.log = .cartWrite a v s.cc :: s.ext.log
    (plainWindow c = true → ¬clock →
      (m.ramEnable = true → 0 < c.ramBytes → read ∧ written) ∧
      (m.ramEnable = false ∨ c.ramBytes = 0 → readOpen ∧ lost)) ∧
    (clock → m.ramEnable = false → readOpen ∧ lost) ∧
    (c.variant = .mbc2 →
      (m.ramEnable = true →
        s.cartWindowRead a = (0xF0#8 ||| s.byte .sram i, driven (0xF0#8 ||| s.byte .sram i) s) ∧
        s.cartWindowWrite a v = driven v (s.setByte .sram i (v &&& 0x0F))) ∧
      (m.ramEnable = false → readOpen ∧ lost)) ∧
    (c.variant = .huc1 →
      (m.modeReg ≠ 0x0E → 0 < c.ramBytes → read ∧ written) ∧ (m.modeReg ≠ 0x0E → c.ramBytes = 0 → readOpen ∧ lost) ∧
      (m.modeReg = 0x0E → (s.cartWindowRead a).1 = 0xC0 ∨ (s.cartWindowRead a).1 = 0xC1)) ∧
    (c.variant = .huc3 →
      (m.modeReg = 0x00 → 0 < c.ramBytes → read ∧ lost) ∧ (m.modeReg = 0x0A → 0 < c.ramBytes → read ∧ written) ∧
      (m.modeReg ∈ [0x0B#8, 0x0C, 0x0D, 0x0E] → handled)) ∧
    (c.variant = .camera →
      (m.modeReg ≠ 0x10 → 0 < c.ramBytes → read ∧ (m.ramEnable = true → written) ∧ (m.ramEnable = false → lost)) ∧
      (m.modeReg = 0x10 → handled)) ∧
    (c.variant = .mmm01 → handled) ∧
    (c.variant = .wisdomTree → c.ramBytes = 0 → readOpen ∧ lost)

/-- 62_mbc.md R451, R452, 63_rtc.md R490, R500, R503, R504, R506: the MBC3 clock is latched by `0x00` then `0x01`, read from
the latched copy only, and written to the live registers only. -/
def Obligations.ClockIsReadFromTheLatchOnly : Prop :=
  ∀ (a : Word) (v : Byte) (i : Nat) (t : Int) (s : State), s.cartridge.variant = .mbc3 → s.cartridge.hasRtc = true →
    (s.rtcAdvance t).rtc.latched = s.rtc.latched ∧ (s.rtcWrite i v).rtc.latched = s.rtc.latched ∧
    (0x6000 ≤ a.toNat → a.toNat < 0x8000 → s.mapper.latchPrev = 0x00 → v = 0x01 →
      (s.romWrite a v).rtc.latched = (s.rtcAdvance s.cc).rtc.live) ∧
    (a.toNat < 0x8000 → (a.toNat < 0x6000 ∨ s.mapper.latchPrev ≠ 0x00 ∨ v ≠ 0x01) → (s.romWrite a v).rtc = s.rtc) ∧
    (i < 5 → s.mapper.ramBankReg.toNat = 8 + i → s.mapper.ramEnable = true → 0xA000 ≤ a.toNat → a.toNat < 0xC000 →
      (s.cartWindowRead a).1.toNat = [s.rtc.latched.s.toNat, s.rtc.latched.m.toNat, s.rtc.latched.h.toNat,
        s.rtc.latched.dl.toNat,
        s.rtc.latched.day8.toNat + 64 * s.rtc.latched.halt.toNat + 128 * s.rtc.latched.carry.toNat].getD i 0 ∧
      (s.cartWindowRead a).2.rtc = s.rtc ∧
      (s.cartWindowWrite a v).rtc.latched = s.rtc.latched ∧
      (s.cartWindowWrite a v).rtc.live =
        [ { (s.rtcAdvance s.cc).rtc.live with s := BitVec.ofNat 6 v.toNat },
          { (s.rtcAdvance s.cc).rtc.live with m := BitVec.ofNat 6 v.toNat },
          { (s.rtcAdvance s.cc).rtc.live with h := BitVec.ofNat 5 v.toNat },
          { (s.rtcAdvance s.cc).rtc.live with dl := v },
          { (s.rtcAdvance s.cc).rtc.live with day8 := v.getLsbD 0, halt := v.getLsbD 6, carry := v.getLsbD 7 } ].getD i
          s.rtc.live ∧
      (s.cartWindowWrite a v).rtc.sub = if i = 0 then 0 else (s.rtcAdvance s.cc).rtc.sub)

/-- 63_rtc.md R490, R491, R497, R498, R499, R510: a running clock with fields in range shows exactly the seconds elapsed,
the day counter modulo 512 with a sticky carry; a halted one keeps its registers and its phase. In cycle mode the time
elapsed is that of `cc`; in wall mode it is the host's since `hostLast`, which is taken to the host's time, and with no
answer left, or a host clock that goes back, no time passes (log 11). Nothing but the chip changes, the list of the host's
answers aside. Layout B
counts days of 1440 minutes in 12 bits, only while unhalted; its seconds, its halt state and its width are the model's
choice (log 12). The host's calls bring the chip up to date and set what R507 and R508 say, `setBaseTime` in wall mode too, as
the pseudocode of R507 has it against its prose (log 11); an offset that would leave the
divisor not positive is ignored (log 11). -/
def Obligations.ClockCountsElapsedSeconds : Prop :=
  ∀ (t ts offset : Int) (s : State),
    let c := s.rtcAdvance s.cc
    let n := (s.rtcAdvance t).rtc
    let div2 := (2 * (4194304 + s.rtc.divisorOffset)).toNat
    let e := (t - s.rtc.last).toNat * (if s.cpu.doubleSpeed then 1 else 2)
    let day : RtcRegs → Nat := fun q => q.day8.toNat * 256 + q.dl.toNat
    let secs : RtcRegs → Nat := fun q => q.s.toNat + 60 * (q.m.toNat + 60 * (q.h.toNat + 24 * day q))
    let secsB : RtcB → Nat := fun q => q.seconds.toNat + 60 * (q.minutes.toNat + 1440 * q.days.toNat)
    let host := s.ext.times.head?.getD s.rtc.hostLast
    let counts : Nat → Prop := fun e =>
      (s.rtcLayoutB = false →
        let r := s.rtc.live
        n.layoutB = s.rtc.layoutB ∧
        (r.halt = true → n.live = r ∧ n.sub = s.rtc.sub) ∧
        (r.halt = false → r.s.toNat < 60 → r.m.toNat < 60 → r.h.toNat < 24 →
          n.sub = (s.rtc.sub + e) % div2 ∧
          secs n.live = (secs r + (s.rtc.sub + e) / div2) % (512 * 86400) ∧
          n.live.halt = false ∧
          n.live.carry = (r.carry || decide (512 * 86400 ≤ secs r + (s.rtc.sub + e) / div2)))) ∧
      (s.rtcLayoutB = true →
        let r := s.rtc.layoutB
        n.live = s.rtc.live ∧
        (r.halted = true → n.layoutB = r ∧ n.sub = s.rtc.sub) ∧
        (r.halted = false → r.seconds.toNat < 60 → r.minutes.toNat < 1440 →
          n.sub = (s.rtc.sub + e) % div2 ∧
          secsB n.layoutB = (secsB r + (s.rtc.sub + e) / div2) % (4096 * 86400) ∧
          { n.layoutB with seconds := r.seconds, minutes := r.minutes, days := r.days } = r))
    (s.rtc.last < t → n.last = t ∧ { s.rtcAdvance t with rtc := s.rtc, ext := s.ext } = s ∧
      { n with last := s.rtc.last, hostLast := s.rtc.hostLast, sub := s.rtc.sub, live := s.rtc.live,
               layoutB := s.rtc.layoutB } = s.rtc) ∧
    (s.params.rtcSync = .cycle → s.rtc.last < t → 0 < rtcDivisor + s.rtc.divisorOffset →
      counts e ∧ n.hostLast = s.rtc.hostLast ∧ (s.rtcAdvance t).ext = s.ext) ∧
    (s.params.rtcSync = .wall → s.rtc.last < t → 0 < rtcDivisor + s.rtc.divisorOffset →
      counts ((host - s.rtc.hostLast).toNat * div2) ∧ n.hostLast = host ∧
      (s.rtcAdvance t).ext = { s.ext with times := s.ext.times.tail }) ∧
    (t ≤ s.rtc.last → s.rtcAdvance t = s) ∧
    s.hostCall (.setBaseTime ts) = { c with rtc := { c.rtc with
      baseTime := ts, last := s.cc, hostLast := if s.params.rtcSync = .wall then ts else c.rtc.hostLast } } ∧
    s.hostCall (.setDivisorOffset offset) =
      if 0 < 4194304 + offset then { c with rtc := { c.rtc with divisorOffset := offset } } else s
end

