-- ==== Sys2Proof/Laws/External.lean ====
section
/-! SUPPORT. What an external handler's answer does to the state, in closed form: the deadlines and the VRAM bytes it
lists, applied in order, and nothing else. -/

namespace Sys2Proof.Machine

theorem State.applySets_eq (l : List (ExtSlot × Option Int)) (s : State) :
    State.applySets l s = { s with sched := l.foldl (fun d c => d.set c.1.slot c.2) s.sched } := by
  induction l generalizing s with
  | nil => rfl
  | cons c l ih => exact ih (s.setSlot c.1.slot c.2)

theorem State.applyVram_eq (l : List (Nat × Byte)) (s : State) :
    State.applyVram l s =
      { s with mem := { s.mem with vram := l.foldl (fun m c => m.write c.1 c.2) s.mem.vram } } := by
  induction l generalizing s with
  | nil => rfl
  | cons c l ih => exact ih (s.setByte .vram c.1 c.2)

/-- With no answer left a call only logs the event and gives `0xFF`. -/
theorem State.callExt_nil {s : State} (h : s.ext.answers = []) (hdma : Bool) (ev : ExtEvent) :
    s.callExt hdma ev = (0xFF, s.logEvent ev) := by simp [State.callExt, h, ExtAnswer.absent]

/-- A call takes the next answer, gives its byte and applies it. -/
theorem State.callExt_cons {s : State} {ans : ExtAnswer} {rest : List ExtAnswer} (h : s.ext.answers = ans :: rest)
    (hdma : Bool) (ev : ExtEvent) : s.callExt hdma ev =
      (ans.value, ({ s with ext := { s.ext with answers := rest } }.logEvent ev).applyAnswer hdma ans) := by
  simp [State.callExt, h]

end Sys2Proof.Machine
end

