-- ==== Sys2Proof/Laws/Memory.lean ====
section
/-! SUPPORT. The laws of storage arrays: read after write, and the canonical form is kept. -/

namespace Sys2Proof.Machine

/-- Reading past an inserted cell. -/
theorem Memory.read_insertCell (i j : Nat) (v : Byte) (m : Memory) (h : m.all (fun c => c.1 ≠ i)) :
    (Memory.insertCell i v m).read j = if i = j then v else m.read j := by
  induction m with
  | nil => simp [Memory.insertCell, Memory.read]
  | cons c m ih =>
    obtain ⟨k, w⟩ := c
    simp only [List.all_cons, Bool.and_eq_true, decide_eq_true_eq] at h
    simp only [Memory.insertCell]
    split
    · simp [Memory.read]
    · simp only [Memory.read, ih h.2]
      by_cases hk : k = j
      · have : i ≠ j := fun e => h.1 (hk.trans e.symm)
        simp [hk, this]
      · simp [hk]

/-- Reading a filtered array. -/
theorem Memory.read_filter (i j : Nat) (m : Memory) :
    Memory.read (m.filter (fun c => c.1 ≠ i)) j = if i = j then Memory.unlisted else m.read j := by
  induction m with
  | nil => simp [Memory.read]
  | cons c m ih =>
    obtain ⟨k, w⟩ := c
    by_cases hk : k = i
    · subst hk
      simp only [ne_eq, not_true_eq_false, decide_false, Bool.false_eq_true, not_false_eq_true,
        List.filter_cons_of_neg] at ih ⊢
      rw [ih]
      by_cases hj : k = j <;> simp [hj, Memory.read]
    · simp only [ne_eq, hk, not_false_eq_true, decide_true, List.filter_cons_of_pos, Memory.read] at ih ⊢
      rw [ih]
      by_cases hj : k = j
      · have : i ≠ j := fun e => hk (hj.trans e.symm)
        simp [hj, this]
      · simp [hj]

/-- No cell of the index written is left. -/
theorem Memory.filter_all_ne (i : Nat) (m : Memory) : (m.filter (fun c => c.1 ≠ i)).all (fun c => c.1 ≠ i) := by
  induction m with
  | nil => rfl
  | cons c m ih =>
    by_cases hk : c.1 = i <;> simp [hk]

/-- Read after write, at every index. -/
theorem Memory.read_write (m : Memory) (i j : Nat) (v : Byte) :
    (m.write i v).read j = if i = j then v else m.read j := by
  unfold Memory.write
  split
  · rename_i hv
    rw [Memory.read_filter]
    by_cases hj : i = j <;> simp [hj, hv]
  · rw [Memory.read_insertCell _ _ _ _ (Memory.filter_all_ne i m), Memory.read_filter]
    by_cases hj : i = j <;> simp [hj]

/-- Read after write at the same index. -/
@[simp] theorem Memory.read_write_self (m : Memory) (i : Nat) (v : Byte) : (m.write i v).read i = v := by
  simp [Memory.read_write]

/-- A write leaves every other index alone. -/
theorem Memory.read_write_of_ne (m : Memory) {i j : Nat} (h : i ≠ j) (v : Byte) : (m.write i v).read j = m.read j := by
  simp [Memory.read_write, h]

/-- Every index of the array lies above `k`. -/
def Memory.above (k : Nat) (m : Memory) : Prop := ∀ c ∈ m, k < c.1

/-- The canonical form, as a statement about members. -/
theorem Memory.wf_cons (c : Nat × Byte) (m : Memory) :
    Memory.wf (c :: m) = true ↔ c.2 ≠ Memory.unlisted ∧ Memory.above c.1 m ∧ Memory.wf m = true := by
  obtain ⟨k, v⟩ := c
  constructor
  · intro h
    simp only [Memory.wf, Bool.and_eq_true, bne_iff_ne, ne_eq] at h
    obtain ⟨⟨h1, h2⟩, h3⟩ := h
    refine ⟨h1, ?_, h3⟩
    clear h1
    induction m generalizing k with
    | nil => intro c hc; cases hc
    | cons d m ih =>
      obtain ⟨q, w⟩ := d
      simp only [Memory.below, decide_eq_true_eq] at h2
      intro c hc
      rcases List.mem_cons.mp hc with rfl | hc
      · exact h2
      · have h3' := h3
        simp only [Memory.wf, Bool.and_eq_true] at h3'
        exact Nat.lt_trans h2 (ih q h3'.2 h3'.1.2 c hc)
  · rintro ⟨h1, h2, h3⟩
    simp only [Memory.wf, Bool.and_eq_true, bne_iff_ne, ne_eq]
    refine ⟨⟨h1, ?_⟩, h3⟩
    cases m with
    | nil => rfl
    | cons d m => simpa [Memory.below] using h2 d List.mem_cons_self

/-- A part of an array in canonical form, with no cell of one index, is in canonical form. -/
theorem Memory.wf_filter (i : Nat) (m : Memory) (h : m.wf = true) :
    Memory.wf (m.filter (fun c => c.1 ≠ i)) = true := by
  induction m with
  | nil => rfl
  | cons c m ih =>
    rw [Memory.wf_cons] at h
    by_cases hk : c.1 = i
    · simpa [hk] using ih h.2.2
    · simp only [ne_eq, hk, not_false_eq_true, decide_true, List.filter_cons_of_pos]
      rw [Memory.wf_cons]
      exact ⟨h.1, fun d hd => h.2.1 d (List.mem_filter.mp hd).1, by simpa using ih h.2.2⟩

/-- The members of an array with a cell inserted. -/
theorem Memory.mem_insertCell (i : Nat) (v : Byte) (m : Memory) (d : Nat × Byte)
    (hd : d ∈ Memory.insertCell i v m) : d = (i, v) ∨ d ∈ m := by
  induction m with
  | nil => exact .inl (by simpa [Memory.insertCell] using hd)
  | cons c m ih =>
    simp only [Memory.insertCell] at hd
    split at hd
    · rcases List.mem_cons.mp hd with h | h
      · exact .inl h
      · exact .inr h
    · rcases List.mem_cons.mp hd with h | h
      · exact .inr (h ▸ List.mem_cons_self)
      · rcases ih h with h | h
        · exact .inl h
        · exact .inr (List.mem_cons_of_mem _ h)

/-- Inserting a cell of a new index keeps the canonical form. -/
theorem Memory.wf_insertCell (i : Nat) (v : Byte) (m : Memory) (hv : v ≠ Memory.unlisted)
    (hi : ∀ c ∈ m, c.1 ≠ i) (h : m.wf = true) : Memory.wf (Memory.insertCell i v m) = true := by
  induction m with
  | nil =>
    refine (Memory.wf_cons _ _).mpr ⟨hv, ?_, rfl⟩
    intro c hc
    cases hc
  | cons c m ih =>
    have hc := (Memory.wf_cons _ _).mp h
    simp only [Memory.insertCell]
    split
    · rename_i hlt
      refine (Memory.wf_cons _ _).mpr ⟨hv, ?_, h⟩
      intro d hd
      rcases List.mem_cons.mp hd with rfl | hd
      · exact hlt
      · exact Nat.lt_trans hlt (hc.2.1 d hd)
    · rename_i hlt
      refine (Memory.wf_cons _ _).mpr ⟨hc.1, ?_, ih (fun d hd => hi d (List.mem_cons_of_mem _ hd)) hc.2.2⟩
      intro d hd
      rcases Memory.mem_insertCell i v m d hd with rfl | hd
      · have := hi c List.mem_cons_self
        simp only at this ⊢
        omega
      · exact hc.2.1 d hd

/-- A write keeps the canonical form. -/
theorem Memory.wf_write (m : Memory) (i : Nat) (v : Byte) (h : m.wf = true) : (m.write i v).wf = true := by
  unfold Memory.write
  split
  · exact Memory.wf_filter i m h
  · rename_i hv
    exact Memory.wf_insertCell i v _ hv (fun c hc => by simpa using (List.mem_filter.mp hc).2) (Memory.wf_filter i m h)

/-- An array built from cells is in canonical form. -/
theorem Memory.wf_ofCells (l : List (Nat × Byte)) : (Memory.ofCells l).wf = true := by
  induction l with
  | nil => rfl
  | cons c l ih => exact Memory.wf_write _ _ _ ih

/-- Writing a run of bytes keeps the canonical form. -/
theorem Memory.wf_writeAll (l : List Byte) (m : Memory) (i : Nat) (h : m.wf = true) : (m.writeAll i l).wf = true := by
  induction l generalizing m i with
  | nil => exact h
  | cons v l ih => exact ih _ _ (Memory.wf_write _ _ _ h)

end Sys2Proof.Machine
end

