-- ==== Sys2Proof/Laws/State.lean ====
section
/-! SUPPORT. One lemma per field per update of the state, so that no proof unfolds a record update. -/

namespace Sys2Proof.Machine

@[simp] theorem State.setReg8_cc (r : Reg8) (v : Byte) (s : State) : (s.setReg8 r v).cc = s.cc := by cases r <;> rfl
@[simp] theorem State.setReg8_io (r : Reg8) (v : Byte) (s : State) : (s.setReg8 r v).io = s.io := by cases r <;> rfl
@[simp] theorem State.setReg8_timer (r : Reg8) (v : Byte) (s : State) : (s.setReg8 r v).timer = s.timer := by cases r <;> rfl
@[simp] theorem State.setReg8_bus (r : Reg8) (v : Byte) (s : State) : (s.setReg8 r v).bus = s.bus := by cases r <;> rfl
@[simp] theorem State.setReg8_sched (r : Reg8) (v : Byte) (s : State) : (s.setReg8 r v).sched = s.sched := by cases r <;> rfl
@[simp] theorem State.setReg8_mapper (r : Reg8) (v : Byte) (s : State) : (s.setReg8 r v).mapper = s.mapper := by cases r <;> rfl
@[simp] theorem State.setReg8_rtc (r : Reg8) (v : Byte) (s : State) : (s.setReg8 r v).rtc = s.rtc := by cases r <;> rfl
@[simp] theorem State.setReg8_dma (r : Reg8) (v : Byte) (s : State) : (s.setReg8 r v).dma = s.dma := by cases r <;> rfl
@[simp] theorem State.setReg8_mem (r : Reg8) (v : Byte) (s : State) : (s.setReg8 r v).mem = s.mem := by cases r <;> rfl
@[simp] theorem State.setReg8_cart (r : Reg8) (v : Byte) (s : State) : (s.setReg8 r v).cart = s.cart := by cases r <;> rfl
@[simp] theorem State.setReg8_params (r : Reg8) (v : Byte) (s : State) : (s.setReg8 r v).params = s.params := by cases r <;> rfl
@[simp] theorem State.setReg8_ext (r : Reg8) (v : Byte) (s : State) : (s.setReg8 r v).ext = s.ext := by cases r <;> rfl
@[simp] theorem State.setReg8_cpu_f (r : Reg8) (v : Byte) (s : State) : (s.setReg8 r v).cpu.f = s.cpu.f := by cases r <;> rfl
@[simp] theorem State.setReg8_cpu_sp (r : Reg8) (v : Byte) (s : State) : (s.setReg8 r v).cpu.sp = s.cpu.sp := by cases r <;> rfl
@[simp] theorem State.setReg8_cpu_pc (r : Reg8) (v : Byte) (s : State) : (s.setReg8 r v).cpu.pc = s.cpu.pc := by cases r <;> rfl
@[simp] theorem State.setReg8_cpu_ime (r : Reg8) (v : Byte) (s : State) : (s.setReg8 r v).cpu.ime = s.cpu.ime := by cases r <;> rfl
@[simp] theorem State.setReg8_cpu_minIntTime (r : Reg8) (v : Byte) (s : State) : (s.setReg8 r v).cpu.minIntTime = s.cpu.minIntTime := by cases r <;> rfl
@[simp] theorem State.setReg8_cpu_halted (r : Reg8) (v : Byte) (s : State) : (s.setReg8 r v).cpu.halted = s.cpu.halted := by cases r <;> rfl
@[simp] theorem State.setReg8_cpu_stopped (r : Reg8) (v : Byte) (s : State) : (s.setReg8 r v).cpu.stopped = s.cpu.stopped := by cases r <;> rfl
@[simp] theorem State.setReg8_cpu_stopStart (r : Reg8) (v : Byte) (s : State) : (s.setReg8 r v).cpu.stopStart = s.cpu.stopStart := by cases r <;> rfl
@[simp] theorem State.setReg8_cpu_prefetched (r : Reg8) (v : Byte) (s : State) : (s.setReg8 r v).cpu.prefetched = s.cpu.prefetched := by cases r <;> rfl
@[simp] theorem State.setReg8_cpu_latch (r : Reg8) (v : Byte) (s : State) : (s.setReg8 r v).cpu.latch = s.cpu.latch := by cases r <;> rfl
@[simp] theorem State.setReg8_cpu_doubleSpeed (r : Reg8) (v : Byte) (s : State) : (s.setReg8 r v).cpu.doubleSpeed = s.cpu.doubleSpeed := by cases r <;> rfl

@[simp] theorem State.setReg16_cc (r : Reg16) (v : Word) (s : State) : (s.setReg16 r v).cc = s.cc := by cases r <;> rfl
@[simp] theorem State.setReg16_io (r : Reg16) (v : Word) (s : State) : (s.setReg16 r v).io = s.io := by cases r <;> rfl
@[simp] theorem State.setReg16_timer (r : Reg16) (v : Word) (s : State) : (s.setReg16 r v).timer = s.timer := by cases r <;> rfl
@[simp] theorem State.setReg16_bus (r : Reg16) (v : Word) (s : State) : (s.setReg16 r v).bus = s.bus := by cases r <;> rfl
@[simp] theorem State.setReg16_sched (r : Reg16) (v : Word) (s : State) : (s.setReg16 r v).sched = s.sched := by cases r <;> rfl
@[simp] theorem State.setReg16_mapper (r : Reg16) (v : Word) (s : State) : (s.setReg16 r v).mapper = s.mapper := by cases r <;> rfl
@[simp] theorem State.setReg16_rtc (r : Reg16) (v : Word) (s : State) : (s.setReg16 r v).rtc = s.rtc := by cases r <;> rfl
@[simp] theorem State.setReg16_dma (r : Reg16) (v : Word) (s : State) : (s.setReg16 r v).dma = s.dma := by cases r <;> rfl
@[simp] theorem State.setReg16_mem (r : Reg16) (v : Word) (s : State) : (s.setReg16 r v).mem = s.mem := by cases r <;> rfl
@[simp] theorem State.setReg16_cart (r : Reg16) (v : Word) (s : State) : (s.setReg16 r v).cart = s.cart := by cases r <;> rfl
@[simp] theorem State.setReg16_params (r : Reg16) (v : Word) (s : State) : (s.setReg16 r v).params = s.params := by cases r <;> rfl
@[simp] theorem State.setReg16_ext (r : Reg16) (v : Word) (s : State) : (s.setReg16 r v).ext = s.ext := by cases r <;> rfl
@[simp] theorem State.setReg16_cpu_pc (r : Reg16) (v : Word) (s : State) : (s.setReg16 r v).cpu.pc = s.cpu.pc := by cases r <;> rfl
@[simp] theorem State.setReg16_cpu_ime (r : Reg16) (v : Word) (s : State) : (s.setReg16 r v).cpu.ime = s.cpu.ime := by cases r <;> rfl
@[simp] theorem State.setReg16_cpu_minIntTime (r : Reg16) (v : Word) (s : State) : (s.setReg16 r v).cpu.minIntTime = s.cpu.minIntTime := by cases r <;> rfl
@[simp] theorem State.setReg16_cpu_halted (r : Reg16) (v : Word) (s : State) : (s.setReg16 r v).cpu.halted = s.cpu.halted := by cases r <;> rfl
@[simp] theorem State.setReg16_cpu_stopped (r : Reg16) (v : Word) (s : State) : (s.setReg16 r v).cpu.stopped = s.cpu.stopped := by cases r <;> rfl
@[simp] theorem State.setReg16_cpu_stopStart (r : Reg16) (v : Word) (s : State) : (s.setReg16 r v).cpu.stopStart = s.cpu.stopStart := by cases r <;> rfl
@[simp] theorem State.setReg16_cpu_prefetched (r : Reg16) (v : Word) (s : State) : (s.setReg16 r v).cpu.prefetched = s.cpu.prefetched := by cases r <;> rfl
@[simp] theorem State.setReg16_cpu_latch (r : Reg16) (v : Word) (s : State) : (s.setReg16 r v).cpu.latch = s.cpu.latch := by cases r <;> rfl
@[simp] theorem State.setReg16_cpu_doubleSpeed (r : Reg16) (v : Word) (s : State) : (s.setReg16 r v).cpu.doubleSpeed = s.cpu.doubleSpeed := by cases r <;> rfl

@[simp] theorem State.setF_cc (v : Byte) (s : State) : (s.setF v).cc = s.cc := rfl
@[simp] theorem State.setF_io (v : Byte) (s : State) : (s.setF v).io = s.io := rfl
@[simp] theorem State.setF_timer (v : Byte) (s : State) : (s.setF v).timer = s.timer := rfl
@[simp] theorem State.setF_bus (v : Byte) (s : State) : (s.setF v).bus = s.bus := rfl
@[simp] theorem State.setF_sched (v : Byte) (s : State) : (s.setF v).sched = s.sched := rfl
@[simp] theorem State.setF_mapper (v : Byte) (s : State) : (s.setF v).mapper = s.mapper := rfl
@[simp] theorem State.setF_rtc (v : Byte) (s : State) : (s.setF v).rtc = s.rtc := rfl
@[simp] theorem State.setF_dma (v : Byte) (s : State) : (s.setF v).dma = s.dma := rfl
@[simp] theorem State.setF_mem (v : Byte) (s : State) : (s.setF v).mem = s.mem := rfl
@[simp] theorem State.setF_cart (v : Byte) (s : State) : (s.setF v).cart = s.cart := rfl
@[simp] theorem State.setF_params (v : Byte) (s : State) : (s.setF v).params = s.params := rfl
@[simp] theorem State.setF_ext (v : Byte) (s : State) : (s.setF v).ext = s.ext := rfl
@[simp] theorem State.setF_cpu_a (v : Byte) (s : State) : (s.setF v).cpu.a = s.cpu.a := rfl
@[simp] theorem State.setF_cpu_b (v : Byte) (s : State) : (s.setF v).cpu.b = s.cpu.b := rfl
@[simp] theorem State.setF_cpu_c (v : Byte) (s : State) : (s.setF v).cpu.c = s.cpu.c := rfl
@[simp] theorem State.setF_cpu_d (v : Byte) (s : State) : (s.setF v).cpu.d = s.cpu.d := rfl
@[simp] theorem State.setF_cpu_e (v : Byte) (s : State) : (s.setF v).cpu.e = s.cpu.e := rfl
@[simp] theorem State.setF_cpu_h (v : Byte) (s : State) : (s.setF v).cpu.h = s.cpu.h := rfl
@[simp] theorem State.setF_cpu_l (v : Byte) (s : State) : (s.setF v).cpu.l = s.cpu.l := rfl
@[simp] theorem State.setF_cpu_sp (v : Byte) (s : State) : (s.setF v).cpu.sp = s.cpu.sp := rfl
@[simp] theorem State.setF_cpu_pc (v : Byte) (s : State) : (s.setF v).cpu.pc = s.cpu.pc := rfl
@[simp] theorem State.setF_cpu_ime (v : Byte) (s : State) : (s.setF v).cpu.ime = s.cpu.ime := rfl
@[simp] theorem State.setF_cpu_minIntTime (v : Byte) (s : State) : (s.setF v).cpu.minIntTime = s.cpu.minIntTime := rfl
@[simp] theorem State.setF_cpu_halted (v : Byte) (s : State) : (s.setF v).cpu.halted = s.cpu.halted := rfl
@[simp] theorem State.setF_cpu_stopped (v : Byte) (s : State) : (s.setF v).cpu.stopped = s.cpu.stopped := rfl
@[simp] theorem State.setF_cpu_stopStart (v : Byte) (s : State) : (s.setF v).cpu.stopStart = s.cpu.stopStart := rfl
@[simp] theorem State.setF_cpu_prefetched (v : Byte) (s : State) : (s.setF v).cpu.prefetched = s.cpu.prefetched := rfl
@[simp] theorem State.setF_cpu_latch (v : Byte) (s : State) : (s.setF v).cpu.latch = s.cpu.latch := rfl
@[simp] theorem State.setF_cpu_doubleSpeed (v : Byte) (s : State) : (s.setF v).cpu.doubleSpeed = s.cpu.doubleSpeed := rfl

@[simp] theorem State.setFlags_cc (z n h c : Bool) (s : State) : (s.setFlags z n h c).cc = s.cc := rfl
@[simp] theorem State.setFlags_io (z n h c : Bool) (s : State) : (s.setFlags z n h c).io = s.io := rfl
@[simp] theorem State.setFlags_timer (z n h c : Bool) (s : State) : (s.setFlags z n h c).timer = s.timer := rfl
@[simp] theorem State.setFlags_bus (z n h c : Bool) (s : State) : (s.setFlags z n h c).bus = s.bus := rfl
@[simp] theorem State.setFlags_sched (z n h c : Bool) (s : State) : (s.setFlags z n h c).sched = s.sched := rfl
@[simp] theorem State.setFlags_mapper (z n h c : Bool) (s : State) : (s.setFlags z n h c).mapper = s.mapper := rfl
@[simp] theorem State.setFlags_rtc (z n h c : Bool) (s : State) : (s.setFlags z n h c).rtc = s.rtc := rfl
@[simp] theorem State.setFlags_dma (z n h c : Bool) (s : State) : (s.setFlags z n h c).dma = s.dma := rfl
@[simp] theorem State.setFlags_mem (z n h c : Bool) (s : State) : (s.setFlags z n h c).mem = s.mem := rfl
@[simp] theorem State.setFlags_cart (z n h c : Bool) (s : State) : (s.setFlags z n h c).cart = s.cart := rfl
@[simp] theorem State.setFlags_params (z n h c : Bool) (s : State) : (s.setFlags z n h c).params = s.params := rfl
@[simp] theorem State.setFlags_ext (z n h c : Bool) (s : State) : (s.setFlags z n h c).ext = s.ext := rfl
@[simp] theorem State.setFlags_cpu_a (z n h c : Bool) (s : State) : (s.setFlags z n h c).cpu.a = s.cpu.a := rfl
@[simp] theorem State.setFlags_cpu_b (z n h c : Bool) (s : State) : (s.setFlags z n h c).cpu.b = s.cpu.b := rfl
@[simp] theorem State.setFlags_cpu_c (z n h c : Bool) (s : State) : (s.setFlags z n h c).cpu.c = s.cpu.c := rfl
@[simp] theorem State.setFlags_cpu_d (z n h c : Bool) (s : State) : (s.setFlags z n h c).cpu.d = s.cpu.d := rfl
@[simp] theorem State.setFlags_cpu_e (z n h c : Bool) (s : State) : (s.setFlags z n h c).cpu.e = s.cpu.e := rfl
@[simp] theorem State.setFlags_cpu_h (z n h c : Bool) (s : State) : (s.setFlags z n h c).cpu.h = s.cpu.h := rfl
@[simp] theorem State.setFlags_cpu_l (z n h c : Bool) (s : State) : (s.setFlags z n h c).cpu.l = s.cpu.l := rfl
@[simp] theorem State.setFlags_cpu_sp (z n h c : Bool) (s : State) : (s.setFlags z n h c).cpu.sp = s.cpu.sp := rfl
@[simp] theorem State.setFlags_cpu_pc (z n h c : Bool) (s : State) : (s.setFlags z n h c).cpu.pc = s.cpu.pc := rfl
@[simp] theorem State.setFlags_cpu_ime (z n h c : Bool) (s : State) : (s.setFlags z n h c).cpu.ime = s.cpu.ime := rfl
@[simp] theorem State.setFlags_cpu_minIntTime (z n h c : Bool) (s : State) : (s.setFlags z n h c).cpu.minIntTime = s.cpu.minIntTime := rfl
@[simp] theorem State.setFlags_cpu_halted (z n h c : Bool) (s : State) : (s.setFlags z n h c).cpu.halted = s.cpu.halted := rfl
@[simp] theorem State.setFlags_cpu_stopped (z n h c : Bool) (s : State) : (s.setFlags z n h c).cpu.stopped = s.cpu.stopped := rfl
@[simp] theorem State.setFlags_cpu_stopStart (z n h c : Bool) (s : State) : (s.setFlags z n h c).cpu.stopStart = s.cpu.stopStart := rfl
@[simp] theorem State.setFlags_cpu_prefetched (z n h c : Bool) (s : State) : (s.setFlags z n h c).cpu.prefetched = s.cpu.prefetched := rfl
@[simp] theorem State.setFlags_cpu_latch (z n h c : Bool) (s : State) : (s.setFlags z n h c).cpu.latch = s.cpu.latch := rfl
@[simp] theorem State.setFlags_cpu_doubleSpeed (z n h c : Bool) (s : State) : (s.setFlags z n h c).cpu.doubleSpeed = s.cpu.doubleSpeed := rfl

@[simp] theorem State.setPc_cc (v : Word) (s : State) : (s.setPc v).cc = s.cc := rfl
@[simp] theorem State.setPc_io (v : Word) (s : State) : (s.setPc v).io = s.io := rfl
@[simp] theorem State.setPc_timer (v : Word) (s : State) : (s.setPc v).timer = s.timer := rfl
@[simp] theorem State.setPc_bus (v : Word) (s : State) : (s.setPc v).bus = s.bus := rfl
@[simp] theorem State.setPc_sched (v : Word) (s : State) : (s.setPc v).sched = s.sched := rfl
@[simp] theorem State.setPc_mapper (v : Word) (s : State) : (s.setPc v).mapper = s.mapper := rfl
@[simp] theorem State.setPc_rtc (v : Word) (s : State) : (s.setPc v).rtc = s.rtc := rfl
@[simp] theorem State.setPc_dma (v : Word) (s : State) : (s.setPc v).dma = s.dma := rfl
@[simp] theorem State.setPc_mem (v : Word) (s : State) : (s.setPc v).mem = s.mem := rfl
@[simp] theorem State.setPc_cart (v : Word) (s : State) : (s.setPc v).cart = s.cart := rfl
@[simp] theorem State.setPc_params (v : Word) (s : State) : (s.setPc v).params = s.params := rfl
@[simp] theorem State.setPc_ext (v : Word) (s : State) : (s.setPc v).ext = s.ext := rfl
@[simp] theorem State.setPc_cpu_a (v : Word) (s : State) : (s.setPc v).cpu.a = s.cpu.a := rfl
@[simp] theorem State.setPc_cpu_f (v : Word) (s : State) : (s.setPc v).cpu.f = s.cpu.f := rfl
@[simp] theorem State.setPc_cpu_b (v : Word) (s : State) : (s.setPc v).cpu.b = s.cpu.b := rfl
@[simp] theorem State.setPc_cpu_c (v : Word) (s : State) : (s.setPc v).cpu.c = s.cpu.c := rfl
@[simp] theorem State.setPc_cpu_d (v : Word) (s : State) : (s.setPc v).cpu.d = s.cpu.d := rfl
@[simp] theorem State.setPc_cpu_e (v : Word) (s : State) : (s.setPc v).cpu.e = s.cpu.e := rfl
@[simp] theorem State.setPc_cpu_h (v : Word) (s : State) : (s.setPc v).cpu.h = s.cpu.h := rfl
@[simp] theorem State.setPc_cpu_l (v : Word) (s : State) : (s.setPc v).cpu.l = s.cpu.l := rfl
@[simp] theorem State.setPc_cpu_sp (v : Word) (s : State) : (s.setPc v).cpu.sp = s.cpu.sp := rfl
@[simp] theorem State.setPc_cpu_ime (v : Word) (s : State) : (s.setPc v).cpu.ime = s.cpu.ime := rfl
@[simp] theorem State.setPc_cpu_minIntTime (v : Word) (s : State) : (s.setPc v).cpu.minIntTime = s.cpu.minIntTime := rfl
@[simp] theorem State.setPc_cpu_halted (v : Word) (s : State) : (s.setPc v).cpu.halted = s.cpu.halted := rfl
@[simp] theorem State.setPc_cpu_stopped (v : Word) (s : State) : (s.setPc v).cpu.stopped = s.cpu.stopped := rfl
@[simp] theorem State.setPc_cpu_stopStart (v : Word) (s : State) : (s.setPc v).cpu.stopStart = s.cpu.stopStart := rfl
@[simp] theorem State.setPc_cpu_prefetched (v : Word) (s : State) : (s.setPc v).cpu.prefetched = s.cpu.prefetched := rfl
@[simp] theorem State.setPc_cpu_latch (v : Word) (s : State) : (s.setPc v).cpu.latch = s.cpu.latch := rfl
@[simp] theorem State.setPc_cpu_doubleSpeed (v : Word) (s : State) : (s.setPc v).cpu.doubleSpeed = s.cpu.doubleSpeed := rfl

@[simp] theorem State.setSp_cc (v : Word) (s : State) : (s.setSp v).cc = s.cc := rfl
@[simp] theorem State.setSp_io (v : Word) (s : State) : (s.setSp v).io = s.io := rfl
@[simp] theorem State.setSp_timer (v : Word) (s : State) : (s.setSp v).timer = s.timer := rfl
@[simp] theorem State.setSp_bus (v : Word) (s : State) : (s.setSp v).bus = s.bus := rfl
@[simp] theorem State.setSp_sched (v : Word) (s : State) : (s.setSp v).sched = s.sched := rfl
@[simp] theorem State.setSp_mapper (v : Word) (s : State) : (s.setSp v).mapper = s.mapper := rfl
@[simp] theorem State.setSp_rtc (v : Word) (s : State) : (s.setSp v).rtc = s.rtc := rfl
@[simp] theorem State.setSp_dma (v : Word) (s : State) : (s.setSp v).dma = s.dma := rfl
@[simp] theorem State.setSp_mem (v : Word) (s : State) : (s.setSp v).mem = s.mem := rfl
@[simp] theorem State.setSp_cart (v : Word) (s : State) : (s.setSp v).cart = s.cart := rfl
@[simp] theorem State.setSp_params (v : Word) (s : State) : (s.setSp v).params = s.params := rfl
@[simp] theorem State.setSp_ext (v : Word) (s : State) : (s.setSp v).ext = s.ext := rfl
@[simp] theorem State.setSp_cpu_a (v : Word) (s : State) : (s.setSp v).cpu.a = s.cpu.a := rfl
@[simp] theorem State.setSp_cpu_f (v : Word) (s : State) : (s.setSp v).cpu.f = s.cpu.f := rfl
@[simp] theorem State.setSp_cpu_b (v : Word) (s : State) : (s.setSp v).cpu.b = s.cpu.b := rfl
@[simp] theorem State.setSp_cpu_c (v : Word) (s : State) : (s.setSp v).cpu.c = s.cpu.c := rfl
@[simp] theorem State.setSp_cpu_d (v : Word) (s : State) : (s.setSp v).cpu.d = s.cpu.d := rfl
@[simp] theorem State.setSp_cpu_e (v : Word) (s : State) : (s.setSp v).cpu.e = s.cpu.e := rfl
@[simp] theorem State.setSp_cpu_h (v : Word) (s : State) : (s.setSp v).cpu.h = s.cpu.h := rfl
@[simp] theorem State.setSp_cpu_l (v : Word) (s : State) : (s.setSp v).cpu.l = s.cpu.l := rfl
@[simp] theorem State.setSp_cpu_pc (v : Word) (s : State) : (s.setSp v).cpu.pc = s.cpu.pc := rfl
@[simp] theorem State.setSp_cpu_ime (v : Word) (s : State) : (s.setSp v).cpu.ime = s.cpu.ime := rfl
@[simp] theorem State.setSp_cpu_minIntTime (v : Word) (s : State) : (s.setSp v).cpu.minIntTime = s.cpu.minIntTime := rfl
@[simp] theorem State.setSp_cpu_halted (v : Word) (s : State) : (s.setSp v).cpu.halted = s.cpu.halted := rfl
@[simp] theorem State.setSp_cpu_stopped (v : Word) (s : State) : (s.setSp v).cpu.stopped = s.cpu.stopped := rfl
@[simp] theorem State.setSp_cpu_stopStart (v : Word) (s : State) : (s.setSp v).cpu.stopStart = s.cpu.stopStart := rfl
@[simp] theorem State.setSp_cpu_prefetched (v : Word) (s : State) : (s.setSp v).cpu.prefetched = s.cpu.prefetched := rfl
@[simp] theorem State.setSp_cpu_latch (v : Word) (s : State) : (s.setSp v).cpu.latch = s.cpu.latch := rfl
@[simp] theorem State.setSp_cpu_doubleSpeed (v : Word) (s : State) : (s.setSp v).cpu.doubleSpeed = s.cpu.doubleSpeed := rfl

@[simp] theorem State.setIme_cc (v : Bool) (s : State) : (s.setIme v).cc = s.cc := rfl
@[simp] theorem State.setIme_io (v : Bool) (s : State) : (s.setIme v).io = s.io := rfl
@[simp] theorem State.setIme_timer (v : Bool) (s : State) : (s.setIme v).timer = s.timer := rfl
@[simp] theorem State.setIme_bus (v : Bool) (s : State) : (s.setIme v).bus = s.bus := rfl
@[simp] theorem State.setIme_sched (v : Bool) (s : State) : (s.setIme v).sched = s.sched := rfl
@[simp] theorem State.setIme_mapper (v : Bool) (s : State) : (s.setIme v).mapper = s.mapper := rfl
@[simp] theorem State.setIme_rtc (v : Bool) (s : State) : (s.setIme v).rtc = s.rtc := rfl
@[simp] theorem State.setIme_dma (v : Bool) (s : State) : (s.setIme v).dma = s.dma := rfl
@[simp] theorem State.setIme_mem (v : Bool) (s : State) : (s.setIme v).mem = s.mem := rfl
@[simp] theorem State.setIme_cart (v : Bool) (s : State) : (s.setIme v).cart = s.cart := rfl
@[simp] theorem State.setIme_params (v : Bool) (s : State) : (s.setIme v).params = s.params := rfl
@[simp] theorem State.setIme_ext (v : Bool) (s : State) : (s.setIme v).ext = s.ext := rfl
@[simp] theorem State.setIme_cpu_a (v : Bool) (s : State) : (s.setIme v).cpu.a = s.cpu.a := rfl
@[simp] theorem State.setIme_cpu_f (v : Bool) (s : State) : (s.setIme v).cpu.f = s.cpu.f := rfl
@[simp] theorem State.setIme_cpu_b (v : Bool) (s : State) : (s.setIme v).cpu.b = s.cpu.b := rfl
@[simp] theorem State.setIme_cpu_c (v : Bool) (s : State) : (s.setIme v).cpu.c = s.cpu.c := rfl
@[simp] theorem State.setIme_cpu_d (v : Bool) (s : State) : (s.setIme v).cpu.d = s.cpu.d := rfl
@[simp] theorem State.setIme_cpu_e (v : Bool) (s : State) : (s.setIme v).cpu.e = s.cpu.e := rfl
@[simp] theorem State.setIme_cpu_h (v : Bool) (s : State) : (s.setIme v).cpu.h = s.cpu.h := rfl
@[simp] theorem State.setIme_cpu_l (v : Bool) (s : State) : (s.setIme v).cpu.l = s.cpu.l := rfl
@[simp] theorem State.setIme_cpu_sp (v : Bool) (s : State) : (s.setIme v).cpu.sp = s.cpu.sp := rfl
@[simp] theorem State.setIme_cpu_pc (v : Bool) (s : State) : (s.setIme v).cpu.pc = s.cpu.pc := rfl
@[simp] theorem State.setIme_cpu_minIntTime (v : Bool) (s : State) : (s.setIme v).cpu.minIntTime = s.cpu.minIntTime := rfl
@[simp] theorem State.setIme_cpu_halted (v : Bool) (s : State) : (s.setIme v).cpu.halted = s.cpu.halted := rfl
@[simp] theorem State.setIme_cpu_stopped (v : Bool) (s : State) : (s.setIme v).cpu.stopped = s.cpu.stopped := rfl
@[simp] theorem State.setIme_cpu_stopStart (v : Bool) (s : State) : (s.setIme v).cpu.stopStart = s.cpu.stopStart := rfl
@[simp] theorem State.setIme_cpu_prefetched (v : Bool) (s : State) : (s.setIme v).cpu.prefetched = s.cpu.prefetched := rfl
@[simp] theorem State.setIme_cpu_latch (v : Bool) (s : State) : (s.setIme v).cpu.latch = s.cpu.latch := rfl
@[simp] theorem State.setIme_cpu_doubleSpeed (v : Bool) (s : State) : (s.setIme v).cpu.doubleSpeed = s.cpu.doubleSpeed := rfl

@[simp] theorem State.addCc_cpu (n : Int) (s : State) : (s.addCc n).cpu = s.cpu := rfl
@[simp] theorem State.addCc_io (n : Int) (s : State) : (s.addCc n).io = s.io := rfl
@[simp] theorem State.addCc_timer (n : Int) (s : State) : (s.addCc n).timer = s.timer := rfl
@[simp] theorem State.addCc_bus (n : Int) (s : State) : (s.addCc n).bus = s.bus := rfl
@[simp] theorem State.addCc_sched (n : Int) (s : State) : (s.addCc n).sched = s.sched := rfl
@[simp] theorem State.addCc_mapper (n : Int) (s : State) : (s.addCc n).mapper = s.mapper := rfl
@[simp] theorem State.addCc_rtc (n : Int) (s : State) : (s.addCc n).rtc = s.rtc := rfl
@[simp] theorem State.addCc_dma (n : Int) (s : State) : (s.addCc n).dma = s.dma := rfl
@[simp] theorem State.addCc_mem (n : Int) (s : State) : (s.addCc n).mem = s.mem := rfl
@[simp] theorem State.addCc_cart (n : Int) (s : State) : (s.addCc n).cart = s.cart := rfl
@[simp] theorem State.addCc_params (n : Int) (s : State) : (s.addCc n).params = s.params := rfl
@[simp] theorem State.addCc_ext (n : Int) (s : State) : (s.addCc n).ext = s.ext := rfl

@[simp] theorem State.tick_cpu  (s : State) : (s.tick).cpu = s.cpu := rfl
@[simp] theorem State.tick_io  (s : State) : (s.tick).io = s.io := rfl
@[simp] theorem State.tick_timer  (s : State) : (s.tick).timer = s.timer := rfl
@[simp] theorem State.tick_bus  (s : State) : (s.tick).bus = s.bus := rfl
@[simp] theorem State.tick_sched  (s : State) : (s.tick).sched = s.sched := rfl
@[simp] theorem State.tick_mapper  (s : State) : (s.tick).mapper = s.mapper := rfl
@[simp] theorem State.tick_rtc  (s : State) : (s.tick).rtc = s.rtc := rfl
@[simp] theorem State.tick_dma  (s : State) : (s.tick).dma = s.dma := rfl
@[simp] theorem State.tick_mem  (s : State) : (s.tick).mem = s.mem := rfl
@[simp] theorem State.tick_cart  (s : State) : (s.tick).cart = s.cart := rfl
@[simp] theorem State.tick_params  (s : State) : (s.tick).params = s.params := rfl
@[simp] theorem State.tick_ext  (s : State) : (s.tick).ext = s.ext := rfl

@[simp] theorem State.setSlot_cc (sl : Slot) (t : Option Int) (s : State) : (s.setSlot sl t).cc = s.cc := rfl
@[simp] theorem State.setSlot_cpu (sl : Slot) (t : Option Int) (s : State) : (s.setSlot sl t).cpu = s.cpu := rfl
@[simp] theorem State.setSlot_io (sl : Slot) (t : Option Int) (s : State) : (s.setSlot sl t).io = s.io := rfl
@[simp] theorem State.setSlot_timer (sl : Slot) (t : Option Int) (s : State) : (s.setSlot sl t).timer = s.timer := rfl
@[simp] theorem State.setSlot_bus (sl : Slot) (t : Option Int) (s : State) : (s.setSlot sl t).bus = s.bus := rfl
@[simp] theorem State.setSlot_mapper (sl : Slot) (t : Option Int) (s : State) : (s.setSlot sl t).mapper = s.mapper := rfl
@[simp] theorem State.setSlot_rtc (sl : Slot) (t : Option Int) (s : State) : (s.setSlot sl t).rtc = s.rtc := rfl
@[simp] theorem State.setSlot_dma (sl : Slot) (t : Option Int) (s : State) : (s.setSlot sl t).dma = s.dma := rfl
@[simp] theorem State.setSlot_mem (sl : Slot) (t : Option Int) (s : State) : (s.setSlot sl t).mem = s.mem := rfl
@[simp] theorem State.setSlot_cart (sl : Slot) (t : Option Int) (s : State) : (s.setSlot sl t).cart = s.cart := rfl
@[simp] theorem State.setSlot_params (sl : Slot) (t : Option Int) (s : State) : (s.setSlot sl t).params = s.params := rfl
@[simp] theorem State.setSlot_ext (sl : Slot) (t : Option Int) (s : State) : (s.setSlot sl t).ext = s.ext := rfl

@[simp] theorem State.setByte_cc (st : Store) (i : Nat) (v : Byte) (s : State) : (s.setByte st i v).cc = s.cc := rfl
@[simp] theorem State.setByte_cpu (st : Store) (i : Nat) (v : Byte) (s : State) : (s.setByte st i v).cpu = s.cpu := rfl
@[simp] theorem State.setByte_io (st : Store) (i : Nat) (v : Byte) (s : State) : (s.setByte st i v).io = s.io := rfl
@[simp] theorem State.setByte_timer (st : Store) (i : Nat) (v : Byte) (s : State) : (s.setByte st i v).timer = s.timer := rfl
@[simp] theorem State.setByte_bus (st : Store) (i : Nat) (v : Byte) (s : State) : (s.setByte st i v).bus = s.bus := rfl
@[simp] theorem State.setByte_sched (st : Store) (i : Nat) (v : Byte) (s : State) : (s.setByte st i v).sched = s.sched := rfl
@[simp] theorem State.setByte_mapper (st : Store) (i : Nat) (v : Byte) (s : State) : (s.setByte st i v).mapper = s.mapper := rfl
@[simp] theorem State.setByte_rtc (st : Store) (i : Nat) (v : Byte) (s : State) : (s.setByte st i v).rtc = s.rtc := rfl
@[simp] theorem State.setByte_dma (st : Store) (i : Nat) (v : Byte) (s : State) : (s.setByte st i v).dma = s.dma := rfl
@[simp] theorem State.setByte_cart (st : Store) (i : Nat) (v : Byte) (s : State) : (s.setByte st i v).cart = s.cart := rfl
@[simp] theorem State.setByte_params (st : Store) (i : Nat) (v : Byte) (s : State) : (s.setByte st i v).params = s.params := rfl
@[simp] theorem State.setByte_ext (st : Store) (i : Nat) (v : Byte) (s : State) : (s.setByte st i v).ext = s.ext := rfl

@[simp] theorem State.logEvent_cc (ev : ExtEvent) (s : State) : (s.logEvent ev).cc = s.cc := rfl
@[simp] theorem State.logEvent_cpu (ev : ExtEvent) (s : State) : (s.logEvent ev).cpu = s.cpu := rfl
@[simp] theorem State.logEvent_io (ev : ExtEvent) (s : State) : (s.logEvent ev).io = s.io := rfl
@[simp] theorem State.logEvent_timer (ev : ExtEvent) (s : State) : (s.logEvent ev).timer = s.timer := rfl
@[simp] theorem State.logEvent_bus (ev : ExtEvent) (s : State) : (s.logEvent ev).bus = s.bus := rfl
@[simp] theorem State.logEvent_sched (ev : ExtEvent) (s : State) : (s.logEvent ev).sched = s.sched := rfl
@[simp] theorem State.logEvent_mapper (ev : ExtEvent) (s : State) : (s.logEvent ev).mapper = s.mapper := rfl
@[simp] theorem State.logEvent_rtc (ev : ExtEvent) (s : State) : (s.logEvent ev).rtc = s.rtc := rfl
@[simp] theorem State.logEvent_dma (ev : ExtEvent) (s : State) : (s.logEvent ev).dma = s.dma := rfl
@[simp] theorem State.logEvent_mem (ev : ExtEvent) (s : State) : (s.logEvent ev).mem = s.mem := rfl
@[simp] theorem State.logEvent_cart (ev : ExtEvent) (s : State) : (s.logEvent ev).cart = s.cart := rfl
@[simp] theorem State.logEvent_params (ev : ExtEvent) (s : State) : (s.logEvent ev).params = s.params := rfl

@[simp] theorem State.drive_cc (v : Byte) (s : State) : (s.drive v).cc = s.cc := rfl
@[simp] theorem State.drive_cpu (v : Byte) (s : State) : (s.drive v).cpu = s.cpu := rfl
@[simp] theorem State.drive_io (v : Byte) (s : State) : (s.drive v).io = s.io := rfl
@[simp] theorem State.drive_timer (v : Byte) (s : State) : (s.drive v).timer = s.timer := rfl
@[simp] theorem State.drive_sched (v : Byte) (s : State) : (s.drive v).sched = s.sched := rfl
@[simp] theorem State.drive_mapper (v : Byte) (s : State) : (s.drive v).mapper = s.mapper := rfl
@[simp] theorem State.drive_rtc (v : Byte) (s : State) : (s.drive v).rtc = s.rtc := rfl
@[simp] theorem State.drive_dma (v : Byte) (s : State) : (s.drive v).dma = s.dma := rfl
@[simp] theorem State.drive_mem (v : Byte) (s : State) : (s.drive v).mem = s.mem := rfl
@[simp] theorem State.drive_cart (v : Byte) (s : State) : (s.drive v).cart = s.cart := rfl
@[simp] theorem State.drive_params (v : Byte) (s : State) : (s.drive v).params = s.params := rfl
@[simp] theorem State.drive_ext (v : Byte) (s : State) : (s.drive v).ext = s.ext := rfl

@[simp] theorem State.intRecompute_cc  (s : State) : (s.intRecompute).cc = s.cc := rfl
@[simp] theorem State.intRecompute_cpu  (s : State) : (s.intRecompute).cpu = s.cpu := rfl
@[simp] theorem State.intRecompute_io  (s : State) : (s.intRecompute).io = s.io := rfl
@[simp] theorem State.intRecompute_timer  (s : State) : (s.intRecompute).timer = s.timer := rfl
@[simp] theorem State.intRecompute_bus  (s : State) : (s.intRecompute).bus = s.bus := rfl
@[simp] theorem State.intRecompute_mapper  (s : State) : (s.intRecompute).mapper = s.mapper := rfl
@[simp] theorem State.intRecompute_rtc  (s : State) : (s.intRecompute).rtc = s.rtc := rfl
@[simp] theorem State.intRecompute_dma  (s : State) : (s.intRecompute).dma = s.dma := rfl
@[simp] theorem State.intRecompute_mem  (s : State) : (s.intRecompute).mem = s.mem := rfl
@[simp] theorem State.intRecompute_cart  (s : State) : (s.intRecompute).cart = s.cart := rfl
@[simp] theorem State.intRecompute_params  (s : State) : (s.intRecompute).params = s.params := rfl
@[simp] theorem State.intRecompute_ext  (s : State) : (s.intRecompute).ext = s.ext := rfl

@[simp] theorem State.setIf_cc (v : BitVec 5) (s : State) : (s.setIf v).cc = s.cc := rfl
@[simp] theorem State.setIf_cpu (v : BitVec 5) (s : State) : (s.setIf v).cpu = s.cpu := rfl
@[simp] theorem State.setIf_timer (v : BitVec 5) (s : State) : (s.setIf v).timer = s.timer := rfl
@[simp] theorem State.setIf_bus (v : BitVec 5) (s : State) : (s.setIf v).bus = s.bus := rfl
@[simp] theorem State.setIf_mapper (v : BitVec 5) (s : State) : (s.setIf v).mapper = s.mapper := rfl
@[simp] theorem State.setIf_rtc (v : BitVec 5) (s : State) : (s.setIf v).rtc = s.rtc := rfl
@[simp] theorem State.setIf_dma (v : BitVec 5) (s : State) : (s.setIf v).dma = s.dma := rfl
@[simp] theorem State.setIf_mem (v : BitVec 5) (s : State) : (s.setIf v).mem = s.mem := rfl
@[simp] theorem State.setIf_cart (v : BitVec 5) (s : State) : (s.setIf v).cart = s.cart := rfl
@[simp] theorem State.setIf_params (v : BitVec 5) (s : State) : (s.setIf v).params = s.params := rfl
@[simp] theorem State.setIf_ext (v : BitVec 5) (s : State) : (s.setIf v).ext = s.ext := rfl

@[simp] theorem State.setIe_cc (v : Byte) (s : State) : (s.setIe v).cc = s.cc := rfl
@[simp] theorem State.setIe_cpu (v : Byte) (s : State) : (s.setIe v).cpu = s.cpu := rfl
@[simp] theorem State.setIe_timer (v : Byte) (s : State) : (s.setIe v).timer = s.timer := rfl
@[simp] theorem State.setIe_bus (v : Byte) (s : State) : (s.setIe v).bus = s.bus := rfl
@[simp] theorem State.setIe_mapper (v : Byte) (s : State) : (s.setIe v).mapper = s.mapper := rfl
@[simp] theorem State.setIe_rtc (v : Byte) (s : State) : (s.setIe v).rtc = s.rtc := rfl
@[simp] theorem State.setIe_dma (v : Byte) (s : State) : (s.setIe v).dma = s.dma := rfl
@[simp] theorem State.setIe_mem (v : Byte) (s : State) : (s.setIe v).mem = s.mem := rfl
@[simp] theorem State.setIe_cart (v : Byte) (s : State) : (s.setIe v).cart = s.cart := rfl
@[simp] theorem State.setIe_params (v : Byte) (s : State) : (s.setIe v).params = s.params := rfl
@[simp] theorem State.setIe_ext (v : Byte) (s : State) : (s.setIe v).ext = s.ext := rfl

@[simp] theorem State.requestIrqs_cc (v : BitVec 5) (s : State) : (s.requestIrqs v).cc = s.cc := rfl
@[simp] theorem State.requestIrqs_cpu (v : BitVec 5) (s : State) : (s.requestIrqs v).cpu = s.cpu := rfl
@[simp] theorem State.requestIrqs_timer (v : BitVec 5) (s : State) : (s.requestIrqs v).timer = s.timer := rfl
@[simp] theorem State.requestIrqs_bus (v : BitVec 5) (s : State) : (s.requestIrqs v).bus = s.bus := rfl
@[simp] theorem State.requestIrqs_mapper (v : BitVec 5) (s : State) : (s.requestIrqs v).mapper = s.mapper := rfl
@[simp] theorem State.requestIrqs_rtc (v : BitVec 5) (s : State) : (s.requestIrqs v).rtc = s.rtc := rfl
@[simp] theorem State.requestIrqs_dma (v : BitVec 5) (s : State) : (s.requestIrqs v).dma = s.dma := rfl
@[simp] theorem State.requestIrqs_mem (v : BitVec 5) (s : State) : (s.requestIrqs v).mem = s.mem := rfl
@[simp] theorem State.requestIrqs_cart (v : BitVec 5) (s : State) : (s.requestIrqs v).cart = s.cart := rfl
@[simp] theorem State.requestIrqs_params (v : BitVec 5) (s : State) : (s.requestIrqs v).params = s.params := rfl
@[simp] theorem State.requestIrqs_ext (v : BitVec 5) (s : State) : (s.requestIrqs v).ext = s.ext := rfl

@[simp] theorem State.timaReschedule_cc  (s : State) : (s.timaReschedule).cc = s.cc := rfl
@[simp] theorem State.timaReschedule_cpu  (s : State) : (s.timaReschedule).cpu = s.cpu := rfl
@[simp] theorem State.timaReschedule_io  (s : State) : (s.timaReschedule).io = s.io := rfl
@[simp] theorem State.timaReschedule_timer  (s : State) : (s.timaReschedule).timer = s.timer := rfl
@[simp] theorem State.timaReschedule_bus  (s : State) : (s.timaReschedule).bus = s.bus := rfl
@[simp] theorem State.timaReschedule_mapper  (s : State) : (s.timaReschedule).mapper = s.mapper := rfl
@[simp] theorem State.timaReschedule_rtc  (s : State) : (s.timaReschedule).rtc = s.rtc := rfl
@[simp] theorem State.timaReschedule_dma  (s : State) : (s.timaReschedule).dma = s.dma := rfl
@[simp] theorem State.timaReschedule_mem  (s : State) : (s.timaReschedule).mem = s.mem := rfl
@[simp] theorem State.timaReschedule_cart  (s : State) : (s.timaReschedule).cart = s.cart := rfl
@[simp] theorem State.timaReschedule_params  (s : State) : (s.timaReschedule).params = s.params := rfl
@[simp] theorem State.timaReschedule_ext  (s : State) : (s.timaReschedule).ext = s.ext := rfl

@[simp] theorem State.setPc_pc (v : Word) (s : State) : (s.setPc v).cpu.pc = v := rfl
@[simp] theorem State.setSp_sp (v : Word) (s : State) : (s.setSp v).cpu.sp = v := rfl
@[simp] theorem State.setIme_ime (v : Bool) (s : State) : (s.setIme v).cpu.ime = v := rfl
@[simp] theorem State.addCc_cc (n : Int) (s : State) : (s.addCc n).cc = s.cc + n := rfl
@[simp] theorem State.tick_cc (s : State) : s.tick.cc = s.cc + 4 := rfl
@[simp] theorem State.drive_bus (v : Byte) (s : State) : (s.drive v).bus = { value := v, time := s.cc } := rfl
@[simp] theorem State.setIf_io (v : BitVec 5) (s : State) : (s.setIf v).io = { s.io with ifr := v } := rfl
@[simp] theorem State.setIe_io (v : Byte) (s : State) : (s.setIe v).io = { s.io with ie := v } := rfl
@[simp] theorem State.requestIrqs_io (v : BitVec 5) (s : State) :
    (s.requestIrqs v).io = { s.io with ifr := s.io.ifr ||| v } := rfl

/-- A register read after its own write. -/
@[simp] theorem State.reg8_setReg8_self (r : Reg8) (v : Byte) (s : State) : (s.setReg8 r v).reg8 r = v := by
  cases r <;> rfl

/-- A register read after the write of another. -/
theorem State.reg8_setReg8_of_ne {q r : Reg8} (h : q ≠ r) (v : Byte) (s : State) :
    (s.setReg8 r v).reg8 q = s.reg8 q := by
  cases q <;> cases r <;> first | rfl | exact absurd rfl h

/-- The halves of a word put together again. -/
@[simp] theorem join_hiByte_loByte (v : Word) : join (hiByte v) (loByte v) = v := by
  unfold join hiByte loByte
  apply BitVec.eq_of_getLsbD_eq
  intro i hi
  simp only [BitVec.getLsbD_append, BitVec.getLsbD_extractLsb']
  by_cases h : i < 8
  · simp [h]
  · have : 8 + (i - 8) = i := by omega
    have h2 : i - 8 < 8 := by omega
    simp [h, h2, this]

/-- A pair read after its own write; `AF` keeps its low nibble 0. -/
theorem State.reg16_setReg16_self {r : Reg16} (h : r ≠ .af) (v : Word) (s : State) :
    (s.setReg16 r v).reg16 r = v := by
  cases r <;> simp [State.setReg16, State.reg16] at h ⊢

/-- A stored byte read back. -/
@[simp] theorem Mems.get_set_self (st : Store) (v : Memory) (m : Mems) : (m.set st v).get st = v := by
  cases st <;> rfl

/-- Another array is untouched. -/
theorem Mems.get_set_of_ne {a b : Store} (h : a ≠ b) (v : Memory) (m : Mems) : (m.set b v).get a = m.get a := by
  cases a <;> cases b <;> first | rfl | exact absurd rfl h

/-- A slot read after its own write. -/
@[simp] theorem Deadlines.time_set_self (sl : Slot) (t : Option Int) (d : Deadlines) : (d.set sl t).time sl = t := by
  cases sl <;> rfl

/-- Another slot is untouched. -/
theorem Deadlines.time_set_of_ne {a b : Slot} (h : a ≠ b) (t : Option Int) (d : Deadlines) :
    (d.set b t).time a = d.time a := by
  cases a <;> cases b <;> first | rfl | exact absurd rfl h

end Sys2Proof.Machine
end

