-- ==== Sys2Proof/Laws/Steady.lean ====
section
/-! SUPPORT. What no bus access changes: the CPU's registers, the cycle counter, the parameters, the cartridge and
the host's calls and the ROM image (00_scope.md R10, R13; 20_memory.md R91, R112). -/

namespace Sys2Proof.Machine

/-- `t` differs from `s` in device and memory state only. -/
structure Steady (s t : State) : Prop where
  cc : t.cc = s.cc
  cpu : t.cpu = s.cpu
  params : t.params = s.params
  cart : t.cart = s.cart
  calls : t.ext.calls = s.ext.calls
  rom : t.mem.rom = s.mem.rom

theorem Steady.refl (s : State) : Steady s s := ⟨rfl, rfl, rfl, rfl, rfl, rfl⟩

theorem Steady.trans {s t u : State} (h : Steady s t) (k : Steady t u) : Steady s u :=
  ⟨k.cc.trans h.cc, k.cpu.trans h.cpu, k.params.trans h.params, k.cart.trans h.cart, k.calls.trans h.calls, k.rom.trans h.rom⟩

theorem steady_setSlot (sl : Slot) (t : Option Int) (s : State) : Steady s (s.setSlot sl t) := ⟨rfl, rfl, rfl, rfl, rfl, rfl⟩

theorem steady_setByte (st : Store) (i : Nat) (v : Byte) (s : State) (h : st ≠ .rom := by decide) :
    Steady s (s.setByte st i v) := by
  refine ⟨rfl, rfl, rfl, rfl, rfl, ?_⟩
  cases st
  · exact absurd rfl h
  all_goals rfl

theorem steady_logEvent (ev : ExtEvent) (s : State) : Steady s (s.logEvent ev) := ⟨rfl, rfl, rfl, rfl, rfl, rfl⟩

theorem steady_drive (v : Byte) (s : State) : Steady s (s.drive v) := ⟨rfl, rfl, rfl, rfl, rfl, rfl⟩

theorem steady_requestIrqs (b : BitVec 5) (s : State) : Steady s (s.requestIrqs b) := ⟨rfl, rfl, rfl, rfl, rfl, rfl⟩

theorem steady_setIf (b : BitVec 5) (s : State) : Steady s (s.setIf b) := ⟨rfl, rfl, rfl, rfl, rfl, rfl⟩

theorem steady_setIe (v : Byte) (s : State) : Steady s (s.setIe v) := ⟨rfl, rfl, rfl, rfl, rfl, rfl⟩

theorem steady_timaReschedule (s : State) : Steady s s.timaReschedule := ⟨rfl, rfl, rfl, rfl, rfl, rfl⟩

theorem steady_askVram (s : State) : Steady s s.askVram.2 := by
  unfold State.askVram
  split <;> exact ⟨rfl, rfl, rfl, rfl, rfl, rfl⟩

theorem steady_askOam (s : State) : Steady s s.askOam.2 := by
  unfold State.askOam
  split <;> exact ⟨rfl, rfl, rfl, rfl, rfl, rfl⟩

theorem steady_poll (s : State) : Steady s s.poll.2 := by
  unfold State.poll
  split <;> exact ⟨rfl, rfl, rfl, rfl, rfl, rfl⟩

theorem steady_hostTime (s : State) : Steady s s.hostTime.2 := by
  unfold State.hostTime
  split <;> exact ⟨rfl, rfl, rfl, rfl, rfl, rfl⟩

theorem steady_applySets (l : List (ExtSlot × Option Int)) (s : State) : Steady s (State.applySets l s) := by
  induction l generalizing s with
  | nil => exact Steady.refl s
  | cons c l ih => exact (steady_setSlot _ _ s).trans (ih _)

theorem steady_applyVram (l : List (Nat × Byte)) (s : State) : Steady s (State.applyVram l s) := by
  induction l generalizing s with
  | nil => exact Steady.refl s
  | cons c l ih => exact (steady_setByte _ _ _ s).trans (ih _)

theorem steady_applySram (l : List (Nat × Byte)) (s : State) : Steady s (State.applySram l s) := by
  induction l generalizing s with
  | nil => exact Steady.refl s
  | cons c l ih =>
    simp only [State.applySram]
    split
    · exact (steady_setByte _ _ _ s).trans (ih _)
    · exact ih s

theorem steady_applyAnswer (hdma : Bool) (ans : ExtAnswer) (s : State) : Steady s (s.applyAnswer hdma ans) := by
  have h1 := steady_applySets ans.sets s
  have h2 : Steady s (if hdma then State.applyVram ans.vram (State.applySets ans.sets s)
      else State.applySets ans.sets s) := by
    split
    · exact h1.trans (steady_applyVram _ _)
    · exact h1
  simp only [State.applyAnswer]
  split
  · exact h2
  · exact h2.trans (steady_requestIrqs _ _)

theorem steady_callExt (hdma : Bool) (ev : ExtEvent) (s : State) : Steady s (s.callExt hdma ev).2 := by
  unfold State.callExt
  split
  · exact steady_logEvent ev s
  · refine Steady.trans ?_ (steady_applyAnswer hdma _ _)
    exact ⟨rfl, rfl, rfl, rfl, rfl, rfl⟩

theorem steady_timerCount (t : Int) (s : State) : Steady s (s.timerCount t) := by
  simp only [State.timerCount]
  split
  · split <;> exact ⟨rfl, rfl, rfl, rfl, rfl, rfl⟩
  · exact Steady.refl s

theorem steady_timerCatchUp (t : Int) (s : State) : Steady s (s.timerCatchUp t) := by
  simp only [State.timerCatchUp]
  split
  · exact Steady.refl s
  · have h := steady_timerCount t s
    exact ⟨h.cc, h.cpu, h.params, h.cart, h.calls, h.rom⟩

theorem steady_writeDiv (s : State) : Steady s s.writeDiv := by
  have h := steady_timerCatchUp s.cc s
  exact ⟨h.cc, h.cpu, h.params, h.cart, h.calls, h.rom⟩

theorem steady_writeTima (v : Byte) (s : State) : Steady s (s.writeTima v) := by
  have h := steady_timerCatchUp s.cc s
  exact ⟨h.cc, h.cpu, h.params, h.cart, h.calls, h.rom⟩

theorem steady_writeTma (v : Byte) (s : State) : Steady s (s.writeTma v) := by
  have h := steady_timerCatchUp s.cc s
  exact ⟨h.cc, h.cpu, h.params, h.cart, h.calls, h.rom⟩

theorem steady_writeTac (v : Byte) (s : State) : Steady s (s.writeTac v) := by
  have h := steady_timerCatchUp s.cc s
  exact ⟨h.cc, h.cpu, h.params, h.cart, h.calls, h.rom⟩

theorem steady_rtcAdvance (t : Int) (s : State) : Steady s (s.rtcAdvance t) := by
  simp only [State.rtcAdvance]
  split
  · exact Steady.refl s
  · split
    · exact ⟨rfl, rfl, rfl, rfl, rfl, rfl⟩
    · have h := steady_hostTime s
      exact ⟨h.cc, h.cpu, h.params, h.cart, h.calls, h.rom⟩

theorem steady_rtcLatch (s : State) : Steady s s.rtcLatch := by
  have h := steady_rtcAdvance s.cc s
  exact ⟨h.cc, h.cpu, h.params, h.cart, h.calls, h.rom⟩

theorem steady_rtcWrite (i : Nat) (v : Byte) (s : State) : Steady s (s.rtcWrite i v) := by
  have h := steady_rtcAdvance s.cc s
  exact ⟨h.cc, h.cpu, h.params, h.cart, h.calls, h.rom⟩

theorem steady_writeLatch (v : Byte) (s : State) : Steady s (s.writeLatch v) := by
  simp only [State.writeLatch]
  split
  · have h := steady_rtcLatch s
    exact ⟨h.cc, h.cpu, h.params, h.cart, h.calls, h.rom⟩
  · exact ⟨rfl, rfl, rfl, rfl, rfl, rfl⟩

theorem steady_applyLayoutB (r : Option RtcB) (s : State) : Steady s (s.applyLayoutB r) := by
  simp only [State.applyLayoutB]
  split
  · exact Steady.refl s
  · split
    · have h := steady_rtcAdvance s.cc s
      exact ⟨h.cc, h.cpu, h.params, h.cart, h.calls, h.rom⟩
    · exact Steady.refl s

theorem steady_askSpecial (ev : ExtEvent) (s : State) : Steady s (s.askSpecial ev).2 := by
  unfold State.askSpecial
  split <;> exact ⟨rfl, rfl, rfl, rfl, rfl, rfl⟩

theorem steady_applySpecial (ans : SpecialAnswer) (s : State) : Steady s (s.applySpecial ans) :=
  (steady_applySram _ s).trans (steady_applyLayoutB _ _)

theorem steady_callSpecial (ev : ExtEvent) (s : State) : Steady s (s.callSpecial ev).2 := by
  have h := steady_askSpecial ev s
  unfold State.callSpecial
  split
  · rename_i t e
    rw [e] at h
    exact h
  · rename_i ans t e
    rw [e] at h
    exact h.trans (steady_applySpecial ans t)

theorem steady_writeSpecial (ev : ExtEvent) (s : State) : Steady s (s.writeSpecial ev) := by
  have h := steady_askSpecial ev s
  unfold State.writeSpecial
  split
  · rename_i t e
    rw [e] at h
    exact h
  · rename_i ans t e
    rw [e] at h
    have k := h.trans (steady_applySpecial ans t)
    exact ⟨k.cc, k.cpu, k.params, k.cart, k.calls, k.rom⟩

theorem steady_romWrite (a : Word) (v : Byte) (s : State) : Steady s (s.romWrite a v) := by
  simp only [State.romWrite]
  split
  · split <;> exact ⟨rfl, rfl, rfl, rfl, rfl, rfl⟩
  · exact ⟨rfl, rfl, rfl, rfl, rfl, rfl⟩
  · exact ⟨rfl, rfl, rfl, rfl, rfl, rfl⟩
  · split
    · exact ⟨rfl, rfl, rfl, rfl, rfl, rfl⟩
    · exact steady_writeLatch v s
  · exact ⟨rfl, rfl, rfl, rfl, rfl, rfl⟩
  · exact ⟨rfl, rfl, rfl, rfl, rfl, rfl⟩
  · exact ⟨rfl, rfl, rfl, rfl, rfl, rfl⟩
  · exact ⟨rfl, rfl, rfl, rfl, rfl, rfl⟩
  · exact steady_writeSpecial _ s
  · exact ⟨rfl, rfl, rfl, rfl, rfl, rfl⟩

theorem steady_peekSpecial (s : State) : Steady s s.peekSpecial.2 := by
  unfold State.peekSpecial
  split <;> exact ⟨rfl, rfl, rfl, rfl, rfl, rfl⟩

theorem steady_dmaWindowByte (a : Nat) (s : State) : Steady s (s.dmaWindowByte a).2 := by
  unfold State.dmaWindowByte
  split
  · exact Steady.refl s
  · exact Steady.refl s
  · exact Steady.refl s
  · exact Steady.refl s
  · exact steady_peekSpecial s

theorem steady_dmaSourceByte (p : Byte) (s : State) : Steady s (s.dmaSourceByte p).2 := by
  simp only [State.dmaSourceByte]
  split
  · exact Steady.refl s
  · exact Steady.refl s
  · exact steady_dmaWindowByte _ s
  · exact Steady.refl s
  · exact Steady.refl s
  · exact Steady.refl s

theorem steady_dmaStep (t : Int) (s : State) : Steady s (s.dmaStep t) := by
  simp only [State.dmaStep]
  split
  · refine Steady.trans ?_ (steady_setByte _ _ _ _)
    refine Steady.trans ?_ (steady_dmaSourceByte _ _)
    exact ⟨rfl, rfl, rfl, rfl, rfl, rfl⟩
  · split <;> exact ⟨rfl, rfl, rfl, rfl, rfl, rfl⟩

theorem steady_dmaSteps (n : Nat) (s : State) : Steady s (s.dmaSteps n) := by
  induction n generalizing s with
  | zero => exact Steady.refl s
  | succ n ih =>
    simp only [State.dmaSteps]
    split
    · exact Steady.refl s
    · exact (steady_dmaStep _ s).trans (ih _)

theorem steady_dmaCatchUp (t : Int) (s : State) : Steady s (s.dmaCatchUp t) := by
  simp only [State.dmaCatchUp]
  split
  · exact Steady.refl s
  · exact (steady_dmaSteps _ s).trans (steady_setSlot _ _ _)

theorem steady_writeDma (v : Byte) (s : State) : Steady s (s.writeDma v) := ⟨rfl, rfl, rfl, rfl, rfl, rfl⟩

theorem steady_ifCatchUp (s : State) : Steady s s.ifCatchUp :=
  (steady_timerCatchUp s.cc s).trans (steady_callExt _ _ _)

theorem steady_ioRead (a : Word) (s : State) : Steady s (s.ioRead a).2 := by
  unfold State.ioRead
  split
  · exact (steady_poll s).trans (steady_callExt _ _ _)
  · exact steady_timerCatchUp s.cc s
  · exact steady_timerCatchUp s.cc s
  · exact Steady.refl s
  · exact Steady.refl s
  · exact steady_ifCatchUp s
  · exact Steady.refl s
  · exact Steady.refl s
  · exact Steady.refl s
  · exact Steady.refl s
  · exact steady_callExt _ _ s

theorem steady_ioWrite (a : Word) (v : Byte) (s : State) : Steady s (s.ioWrite a v) := by
  unfold State.ioWrite
  split
  · exact steady_writeDiv s
  · exact steady_writeTima v s
  · exact steady_writeTma v s
  · exact steady_writeTac v s
  · exact (steady_ifCatchUp s).trans (steady_setIf _ _)
  · exact steady_writeDma v s
  · unfold State.writeKey1; split <;> exact ⟨rfl, rfl, rfl, rfl, rfl, rfl⟩
  · unfold State.writeVbk; split <;> exact ⟨rfl, rfl, rfl, rfl, rfl, rfl⟩
  · unfold State.writeSvbk; split <;> exact ⟨rfl, rfl, rfl, rfl, rfl, rfl⟩
  · exact steady_callExt _ _ s

theorem steady_cartWindowRead (a : Word) (s : State) : Steady s (s.cartWindowRead a).2 := by
  unfold State.cartWindowRead
  split
  · exact Steady.refl s
  · exact steady_drive _ s
  · exact steady_drive _ s
  · exact steady_drive _ s
  · exact (steady_callSpecial _ s).trans (steady_drive _ _)

theorem steady_cartWindowWrite (a : Word) (v : Byte) (s : State) : Steady s (s.cartWindowWrite a v) := by
  unfold State.cartWindowWrite
  split
  · exact Steady.refl s
  · split
    · exact (steady_setByte _ _ _ s).trans (steady_drive _ _)
    · exact Steady.refl s
  · exact (steady_setByte _ _ _ s).trans (steady_drive _ _)
  · exact (steady_rtcWrite _ _ s).trans (steady_drive _ _)
  · exact (steady_callSpecial _ s).trans (steady_drive _ _)

theorem steady_vramWrite (a : Word) (v : Byte) (s : State) : Steady s (s.vramWrite a v) := by
  unfold State.vramWrite
  split
  · exact (steady_askVram s).trans (steady_setByte _ _ _ _)
  · exact steady_askVram s

theorem steady_oamPageWrite (st : Store) (i : Nat) (b : Bool) (v : Byte) (s : State) (h : st ≠ .rom := by decide) :
    Steady s (s.oamPageWrite st i b v) := by
  unfold State.oamPageWrite
  split
  · exact (steady_askOam s).trans (steady_setByte _ _ _ _ h)
  · exact steady_askOam s

theorem steady_decodedRead (a : Word) (s : State) : Steady s (s.decodedRead a).2 := by
  unfold State.decodedRead
  split
  · exact steady_drive _ s
  · exact steady_drive _ s
  · exact steady_askVram s
  · exact steady_cartWindowRead a s
  · exact Steady.refl s
  · exact Steady.refl s
  · exact steady_askOam s
  · exact steady_askOam s
  · exact steady_ioRead a s
  · exact Steady.refl s
  · exact Steady.refl s

theorem steady_decodedWrite (a : Word) (v : Byte) (s : State) : Steady s (s.decodedWrite a v) := by
  unfold State.decodedWrite
  split
  · exact (steady_drive v s).trans (steady_romWrite a v _)
  · exact (steady_drive v s).trans (steady_romWrite a v _)
  · exact steady_vramWrite a v s
  · exact steady_cartWindowWrite a v s
  · exact steady_setByte _ _ _ s
  · exact steady_setByte _ _ _ s
  · exact steady_oamPageWrite _ _ _ _ s
  · exact steady_oamPageWrite _ _ _ _ s
  · exact steady_ioWrite a v s
  · exact steady_setByte _ _ _ s
  · exact steady_setIe v s

theorem steady_busCatchUp (a : Word) (s : State) : Steady s (s.busCatchUp a) := by
  unfold State.busCatchUp
  split
  · exact steady_dmaCatchUp _ s
  · exact Steady.refl s

/-- A bus read changes no CPU register and no cycle stamp of the CPU. -/
theorem steady_busRead (a : Word) (s : State) : Steady s (s.busRead a).2 := by
  simp only [State.busRead]
  split
  · exact steady_busCatchUp a s
  · exact (steady_busCatchUp a s).trans (steady_decodedRead a _)

/-- A bus write changes no CPU register and no cycle stamp of the CPU. -/
theorem steady_busWrite (a : Word) (v : Byte) (s : State) : Steady s (s.busWrite a v) := by
  simp only [State.busWrite]
  split
  · exact (steady_busCatchUp a s).trans (steady_setByte _ _ _ _)
  · exact (steady_busCatchUp a s).trans (steady_decodedWrite a v _)

@[simp] theorem busRead_cpu (a : Word) (s : State) : (s.busRead a).2.cpu = s.cpu := (steady_busRead a s).cpu
@[simp] theorem busRead_cc (a : Word) (s : State) : (s.busRead a).2.cc = s.cc := (steady_busRead a s).cc
@[simp] theorem busRead_params (a : Word) (s : State) : (s.busRead a).2.params = s.params := (steady_busRead a s).params
@[simp] theorem busRead_cart (a : Word) (s : State) : (s.busRead a).2.cart = s.cart := (steady_busRead a s).cart
@[simp] theorem busWrite_cpu (a : Word) (v : Byte) (s : State) : (s.busWrite a v).cpu = s.cpu := (steady_busWrite a v s).cpu
@[simp] theorem busWrite_cc (a : Word) (v : Byte) (s : State) : (s.busWrite a v).cc = s.cc := (steady_busWrite a v s).cc
@[simp] theorem busWrite_params (a : Word) (v : Byte) (s : State) : (s.busWrite a v).params = s.params :=
  (steady_busWrite a v s).params
@[simp] theorem busWrite_cart (a : Word) (v : Byte) (s : State) : (s.busWrite a v).cart = s.cart :=
  (steady_busWrite a v s).cart
@[simp] theorem memRead_cpu (a : Word) (s : State) : (s.memRead a).2.cpu = s.cpu := busRead_cpu a s
@[simp] theorem memRead_cc (a : Word) (s : State) : (s.memRead a).2.cc = s.cc + 4 := by
  simp [State.memRead]
@[simp] theorem memWrite_cpu (a : Word) (v : Byte) (s : State) : (s.memWrite a v).cpu = s.cpu := busWrite_cpu a v s
@[simp] theorem memWrite_cc (a : Word) (v : Byte) (s : State) : (s.memWrite a v).cc = s.cc + 4 := by
  simp [State.memWrite]

end Sys2Proof.Machine
end

