-- ==== Sys2Proof/Laws/Invariant.lean ====
section
/-! SUPPORT. Every operation keeps the invariant of Safety.lean: one lemma per operation. -/

namespace Sys2Proof.Machine

/-- The invariant of Safety.lean; without `strict` the interrupt slot may be stale, as it is between the clearing of
`ime` and the end of a dispatch. -/
structure State.Keeps (strict : Bool) (s : State) : Prop where
  memories : s.mem.wf = true
  flags : s.cpu.f &&& 0x0F#8 = 0x00#8
  stopHalted : s.cpu.stopped = true → s.cpu.halted = true
  dmgSpeed : s.cgb = false → s.cpu.doubleSpeed = false ∧ s.io.prepare = false
  dmaIdle : s.dma.last = none → s.dma.atRest = true
  dmaDeadline : s.sched.oamDma = s.dma.last.map (· + 4)
  timaSlot : s.cpu.stopped = false → s.sched.tima = s.timaDeadline
  interruptSlot : strict = true → s.sched.interrupts.isSome = s.interruptDeadline.isSome
  cartridge : ∀ c, s.cart = some c → c.wf = true
  resetRecord : s.params.resetOk = true
  divisor : 0 < rtcDivisor + s.rtc.divisorOffset

theorem State.keeps_iff_inv (s : State) : s.Keeps true ↔ s.Inv :=
  ⟨fun h => ⟨h.memories, h.flags, h.stopHalted, h.dmgSpeed, h.dmaIdle, h.dmaDeadline, h.timaSlot, h.interruptSlot rfl,
    h.cartridge, h.resetRecord, h.divisor⟩,
   fun h => ⟨h.memories, h.flags, h.stopHalted, h.dmgSpeed, h.dmaIdle, h.dmaDeadline, h.timaSlot, fun _ => h.interruptSlot,
    h.cartridge, h.resetRecord, h.divisor⟩⟩

theorem State.Keeps.relax {strict : Bool} {s : State} (h : s.Keeps strict) : s.Keeps false :=
  ⟨h.memories, h.flags, h.stopHalted, h.dmgSpeed, h.dmaIdle, h.dmaDeadline, h.timaSlot, nofun, h.cartridge, h.resetRecord, h.divisor⟩

variable {strict : Bool}

/-! ### The parts of the invariant -/

/-- Everything the invariant reads, memory and the interrupt and timer slots aside. -/
def State.base (s : State) : Byte × Bool × Bool × Bool × Bool × Bool × OamDma × Option Int × Option Cart × Params ×
    Int :=
  (s.cpu.f, s.cpu.stopped, s.cpu.halted, s.cpu.doubleSpeed, s.cgb, s.io.prepare, s.dma, s.sched.oamDma, s.cart, s.params,
    s.rtc.divisorOffset)

/-- What the interrupt slot is a function of, and the slot itself. -/
def State.intKey (s : State) : Bool × Bool × Bool × BitVec 5 × Byte × Bool :=
  (s.cpu.ime, s.cpu.halted, s.cpu.stopped, s.io.ifr, s.io.ie, s.sched.interrupts.isSome)

/-- What the timer slot is a function of, and the slot itself. -/
def State.timaKey (s : State) : Timer × Bool × Option Int := (s.timer, s.cpu.stopped, s.sched.tima)

theorem interruptDeadline_isSome (s : State) :
    s.interruptDeadline.isSome = (!s.cpu.stopped && s.pending != 0 && (s.cpu.ime || s.cpu.halted)) := by
  unfold State.interruptDeadline
  split <;> simp_all

/-- The invariant depends on memory and the three keys only. -/
theorem State.Keeps.congr {s t : State} (h : s.Keeps strict) (hm : t.mem.wf = true) (hb : t.base = s.base)
    (hi : t.intKey = s.intKey) (ht : t.timaKey = s.timaKey) : t.Keeps strict := by
  simp only [State.base, State.intKey, State.timaKey, Prod.mk.injEq] at hb hi ht
  obtain ⟨b1, b2, b3, b4, b5, b6, b7, b8, b9, b10, b11⟩ := hb
  obtain ⟨i1, i2, i3, i4, i5, i6⟩ := hi
  obtain ⟨t1, t2, t3⟩ := ht
  refine ⟨hm, b1 ▸ h.flags, ?_, ?_, ?_, ?_, ?_, ?_, ?_, b10 ▸ h.resetRecord, b11 ▸ h.divisor⟩
  · rw [b2, b3]; exact h.stopHalted
  · rw [b4, b5, b6]; exact h.dmgSpeed
  · rw [b7]; exact h.dmaIdle
  · rw [b7, b8]; exact h.dmaDeadline
  · intro hs
    rw [b2] at hs
    rw [t3, h.timaSlot hs]
    simp only [State.timaDeadline, t1, t2]
  · intro hstrict
    rw [i6, h.interruptSlot hstrict, interruptDeadline_isSome, interruptDeadline_isSome]
    simp only [State.pending, i1, i2, i3, i4, i5]
  · rw [b9]; exact h.cartridge

/-- Recomputing the interrupt slot repairs it, whatever changed what it depends on. -/
theorem State.Keeps.recompute {anew : Bool} {s t : State} (h : s.Keeps strict) (hm : t.mem.wf = true) (hf : t.cpu.f = s.cpu.f)
    (hsh : t.cpu.stopped = true → t.cpu.halted = true) (hds : t.cpu.doubleSpeed = s.cpu.doubleSpeed)
    (hg : t.params = s.params) (hp : t.io.prepare = s.io.prepare) (hd : t.dma = s.dma)
    (ho : t.sched.oamDma = s.sched.oamDma) (hc : t.cart = s.cart) (htm : t.timer = s.timer)
    (hts : t.cpu.stopped = false → s.cpu.stopped = false) (hti : t.sched.tima = s.sched.tima)
    (hr : t.rtc = s.rtc := by rfl) : t.intRecompute.Keeps anew := by
  refine ⟨hm, ?_, hsh, ?_, ?_, ?_, ?_, ?_, ?_, hg ▸ h.resetRecord, ?_⟩
  · show t.cpu.f &&& 0x0F#8 = 0x00#8
    rw [hf]; exact h.flags
  · show t.cgb = false → t.cpu.doubleSpeed = false ∧ t.io.prepare = false
    rw [show t.cgb = s.cgb by simp only [State.cgb, hg], hds, hp]; exact h.dmgSpeed
  · show t.dma.last = none → t.dma.atRest = true
    rw [hd]; exact h.dmaIdle
  · show t.sched.oamDma = t.dma.last.map (· + 4)
    rw [hd, ho]; exact h.dmaDeadline
  · intro hs
    show t.sched.tima = t.timaDeadline
    have hs' : t.cpu.stopped = false := hs
    have hs2 := hts hs'
    rw [hti, h.timaSlot hs2]
    simp only [State.timaDeadline, htm, hs', hs2]
  · exact fun _ => rfl
  · show ∀ c, t.cart = some c → c.wf = true
    rw [hc]; exact h.cartridge
  · show 0 < rtcDivisor + t.rtc.divisorOffset
    rw [hr]; exact h.divisor

/-! ### Memory -/

theorem Mems.wf_get {m : Mems} (h : m.wf = true) (st : Store) : (m.get st).wf = true := by
  simp only [Mems.wf, Bool.and_eq_true] at h
  cases st <;> simp [Mems.get, h]

theorem Mems.wf_set {m : Mems} (h : m.wf = true) (st : Store) {v : Memory} (hv : v.wf = true) :
    (m.set st v).wf = true := by
  simp only [Mems.wf, Bool.and_eq_true] at h ⊢
  cases st <;> simp [Mems.set, h, hv]

theorem setByte_wf {s : State} (h : s.mem.wf = true) (st : Store) (i : Nat) (v : Byte) :
    (s.setByte st i v).mem.wf = true :=
  Mems.wf_set h st (Memory.wf_write _ _ _ (Mems.wf_get h st))

theorem State.Keeps.setByte {s : State} (h : s.Keeps strict) (st : Store) (i : Nat) (v : Byte) : (s.setByte st i v).Keeps strict :=
  h.congr (setByte_wf h.memories st i v) rfl rfl rfl

/-! ### Registers -/

theorem State.Keeps.setReg8 {s : State} (h : s.Keeps strict) (r : Reg8) (v : Byte) : (s.setReg8 r v).Keeps strict := by
  cases r <;> exact h.congr h.memories rfl rfl rfl

theorem State.Keeps.setF {s : State} (h : s.Keeps strict) (v : Byte) : (s.setF v).Keeps strict := by
  refine ⟨h.memories, ?_, h.stopHalted, h.dmgSpeed, h.dmaIdle, h.dmaDeadline, h.timaSlot, h.interruptSlot, h.cartridge, h.resetRecord, h.divisor⟩
  show (v &&& 0xF0#8) &&& 0x0F#8 = 0x00#8
  rw [BitVec.and_assoc]
  simp

theorem State.Keeps.setFlags {s : State} (h : s.Keeps strict) (z n k c : Bool) : (s.setFlags z n k c).Keeps strict := h.setF _

theorem State.Keeps.setReg16 {s : State} (h : s.Keeps strict) (r : Reg16) (v : Word) : (s.setReg16 r v).Keeps strict := by
  cases r
  · exact h.congr h.memories rfl rfl rfl
  · exact h.congr h.memories rfl rfl rfl
  · exact h.congr h.memories rfl rfl rfl
  · exact h.congr h.memories rfl rfl rfl
  · exact (h.setReg8 .a (hiByte v)).setF (loByte v)

theorem State.Keeps.setPc {s : State} (h : s.Keeps strict) (v : Word) : (s.setPc v).Keeps strict := h.congr h.memories rfl rfl rfl
theorem State.Keeps.setSp {s : State} (h : s.Keeps strict) (v : Word) : (s.setSp v).Keeps strict := h.congr h.memories rfl rfl rfl
theorem State.Keeps.addCc {s : State} (h : s.Keeps strict) (n : Int) : (s.addCc n).Keeps strict := h.congr h.memories rfl rfl rfl
theorem State.Keeps.tick {s : State} (h : s.Keeps strict) : s.tick.Keeps strict := h.addCc 4
theorem State.Keeps.drive {s : State} (h : s.Keeps strict) (v : Byte) : (s.drive v).Keeps strict := h.congr h.memories rfl rfl rfl
theorem State.Keeps.logEvent {s : State} (h : s.Keeps strict) (ev : ExtEvent) : (s.logEvent ev).Keeps strict :=
  h.congr h.memories rfl rfl rfl

/-- Setting a slot other than OAMDMA, TIMA and INTERRUPTS. -/
theorem State.Keeps.setSlot {s : State} (h : s.Keeps strict) (sl : Slot) (t : Option Int) (h1 : sl ≠ .oamDma) (h2 : sl ≠ .tima)
    (h3 : sl ≠ .interrupts) : (s.setSlot sl t).Keeps strict := by
  cases sl <;> first | exact h.congr h.memories rfl rfl rfl | contradiction

theorem State.Keeps.extSlot {s : State} (h : s.Keeps strict) (sl : ExtSlot) (t : Option Int) : (s.setSlot sl.slot t).Keeps strict := by
  cases sl <;> exact h.congr h.memories rfl rfl rfl

/-- Any change to the `ext` component. -/
theorem State.Keeps.withExt {s : State} (h : s.Keeps strict) (e : External) : State.Keeps strict { s with ext := e } :=
  h.congr h.memories rfl rfl rfl

/-! ### Interrupt requests, external handlers -/

theorem State.Keeps.setIf {s : State} (h : s.Keeps strict) (v : BitVec 5) : (s.setIf v).Keeps strict :=
  h.recompute (t := { s with io := { s.io with ifr := v } }) h.memories rfl h.stopHalted rfl rfl rfl rfl rfl rfl rfl id rfl

theorem State.Keeps.setIe {s : State} (h : s.Keeps strict) (v : Byte) : (s.setIe v).Keeps strict :=
  h.recompute (t := { s with io := { s.io with ie := v } }) h.memories rfl h.stopHalted rfl rfl rfl rfl rfl rfl rfl id rfl

theorem State.Keeps.requestIrqs {s : State} (h : s.Keeps strict) (v : BitVec 5) : (s.requestIrqs v).Keeps strict := h.setIf _

theorem State.Keeps.intRecompute {s : State} (h : s.Keeps strict) : s.intRecompute.Keeps strict :=
  h.recompute (t := s) h.memories rfl h.stopHalted rfl rfl rfl rfl rfl rfl rfl id rfl

theorem State.Keeps.askVram {s : State} (h : s.Keeps strict) : s.askVram.2.Keeps strict := by
  unfold State.askVram
  split
  · exact h
  · exact h.withExt _

theorem State.Keeps.askOam {s : State} (h : s.Keeps strict) : s.askOam.2.Keeps strict := by
  unfold State.askOam
  split
  · exact h
  · exact h.withExt _

theorem State.Keeps.poll {s : State} (h : s.Keeps strict) : s.poll.2.Keeps strict := by
  unfold State.poll
  split
  · exact h.logEvent _
  · exact (h.withExt _).logEvent _

theorem State.Keeps.hostTime {s : State} (h : s.Keeps strict) : s.hostTime.2.Keeps strict := by
  unfold State.hostTime
  split
  · exact h
  · exact h.withExt _

theorem State.Keeps.applySets {s : State} (h : s.Keeps strict) (l : List (ExtSlot × Option Int)) : (State.applySets l s).Keeps strict := by
  induction l generalizing s with
  | nil => exact h
  | cons c l ih => exact ih (h.extSlot _ _)

theorem State.Keeps.applyVram {s : State} (h : s.Keeps strict) (l : List (Nat × Byte)) : (State.applyVram l s).Keeps strict := by
  induction l generalizing s with
  | nil => exact h
  | cons c l ih => exact ih (h.setByte _ _ _)

theorem State.Keeps.applySram {s : State} (h : s.Keeps strict) (l : List (Nat × Byte)) : (State.applySram l s).Keeps strict := by
  induction l generalizing s with
  | nil => exact h
  | cons c l ih =>
    simp only [State.applySram]
    split
    · exact ih (h.setByte _ _ _)
    · exact ih h

theorem State.Keeps.applyAnswer {s : State} (h : s.Keeps strict) (hdma : Bool) (ans : ExtAnswer) : (s.applyAnswer hdma ans).Keeps strict := by
  have h2 : (if hdma then State.applyVram ans.vram (State.applySets ans.sets s)
      else State.applySets ans.sets s).Keeps strict := by
    split
    · exact (h.applySets _).applyVram _
    · exact h.applySets _
  simp only [State.applyAnswer]
  split
  · exact h2
  · exact h2.requestIrqs _

theorem State.Keeps.callExt {s : State} (h : s.Keeps strict) (hdma : Bool) (ev : ExtEvent) : (s.callExt hdma ev).2.Keeps strict := by
  unfold State.callExt
  split
  · exact h.logEvent _
  · exact ((h.withExt _).logEvent ev).applyAnswer hdma _

theorem State.Keeps.extFire {s : State} (h : s.Keeps strict) (sl : ExtSlot) : (s.extFire sl).Keeps strict :=
  ((h.extSlot sl none).callExt _ _).extSlot sl _

/-! ### The timer -/

theorem State.Keeps.timerCount {s : State} (h : s.Keeps strict) (t : Int) :
    State.Keeps strict { s.timerCount t with timer := { (s.timerCount t).timer with timaLast := t } }.timaReschedule := by
  simp only [State.timerCount]
  split
  · split
    · exact ⟨h.memories, h.flags, h.stopHalted, h.dmgSpeed, h.dmaIdle, h.dmaDeadline, fun _ => rfl, fun _ => rfl, h.cartridge, h.resetRecord, h.divisor⟩
    · exact ⟨h.memories, h.flags, h.stopHalted, h.dmgSpeed, h.dmaIdle, h.dmaDeadline, fun _ => rfl, h.interruptSlot,
        h.cartridge, h.resetRecord, h.divisor⟩
  · exact ⟨h.memories, h.flags, h.stopHalted, h.dmgSpeed, h.dmaIdle, h.dmaDeadline, fun _ => rfl, h.interruptSlot,
      h.cartridge, h.resetRecord, h.divisor⟩

theorem State.Keeps.timerCatchUp {s : State} (h : s.Keeps strict) (t : Int) : (s.timerCatchUp t).Keeps strict := by
  simp only [State.timerCatchUp]
  split
  · exact h
  · exact h.timerCount t

/-- Changing the timer and rescheduling it. -/
theorem State.Keeps.withTimer {s : State} (h : s.Keeps strict) (tm : Timer) : State.Keeps strict { s with timer := tm }.timaReschedule :=
  ⟨h.memories, h.flags, h.stopHalted, h.dmgSpeed, h.dmaIdle, h.dmaDeadline, fun _ => rfl, h.interruptSlot, h.cartridge, h.resetRecord, h.divisor⟩

theorem State.Keeps.writeDiv {s : State} (h : s.Keeps strict) : s.writeDiv.Keeps strict := (h.timerCatchUp _).withTimer _
theorem State.Keeps.writeTima {s : State} (h : s.Keeps strict) (v : Byte) : (s.writeTima v).Keeps strict := (h.timerCatchUp _).withTimer _
theorem State.Keeps.writeTac {s : State} (h : s.Keeps strict) (v : Byte) : (s.writeTac v).Keeps strict := (h.timerCatchUp _).withTimer _

/-- The reload value takes no part in the next overflow's time. -/
theorem State.Keeps.writeTma {s : State} (h : s.Keeps strict) (v : Byte) : (s.writeTma v).Keeps strict := by
  have k := h.timerCatchUp s.cc
  exact ⟨k.memories, k.flags, k.stopHalted, k.dmgSpeed, k.dmaIdle, k.dmaDeadline, k.timaSlot, k.interruptSlot, k.cartridge, k.resetRecord, k.divisor⟩

/-! ### The RTC and the mapper -/

/-- Any change to the RTC but for its divisor. -/
theorem State.Keeps.withRtc {s : State} (h : s.Keeps strict) (r : Rtc)
    (hr : r.divisorOffset = s.rtc.divisorOffset := by rfl) : State.Keeps strict { s with rtc := r } :=
  h.congr h.memories (by simp [State.base, hr, State.cgb]) rfl rfl

/-- Counting time leaves the divisor. -/
@[simp] theorem Rtc.count_divisorOffset (b : Bool) (e : Nat) (r : Rtc) :
    (r.count b e).divisorOffset = r.divisorOffset := by
  unfold Rtc.count Rtc.tickSeconds
  split
  · rfl
  · split <;> rfl

/-- Any change to the mapper's registers. -/
theorem State.Keeps.withMapper {s : State} (h : s.Keeps strict) (m : Mapper) : State.Keeps strict { s with mapper := m } :=
  h.congr h.memories rfl rfl rfl

theorem hostTime_rtc (s : State) : s.hostTime.2.rtc = s.rtc := by
  unfold State.hostTime
  split <;> rfl

theorem State.Keeps.rtcAdvance {s : State} (h : s.Keeps strict) (t : Int) : (s.rtcAdvance t).Keeps strict := by
  simp only [State.rtcAdvance]
  split
  · exact h
  · split
    · exact h.withRtc _ (by simp)
    · exact h.hostTime.withRtc _ (by simp [hostTime_rtc])

theorem State.Keeps.rtcLatch {s : State} (h : s.Keeps strict) : s.rtcLatch.Keeps strict := (h.rtcAdvance _).withRtc _
theorem State.Keeps.rtcWrite {s : State} (h : s.Keeps strict) (i : Nat) (v : Byte) : (s.rtcWrite i v).Keeps strict := (h.rtcAdvance _).withRtc _

theorem State.Keeps.writeLatch {s : State} (h : s.Keeps strict) (v : Byte) : (s.writeLatch v).Keeps strict := by
  simp only [State.writeLatch]
  split
  · exact h.rtcLatch.withMapper _
  · exact h.withMapper _

theorem State.Keeps.applyLayoutB {s : State} (h : s.Keeps strict) (r : Option RtcB) :
    (s.applyLayoutB r).Keeps strict := by
  simp only [State.applyLayoutB]
  split
  · exact h
  · split
    · exact (h.rtcAdvance _).withRtc _
    · exact h

theorem State.Keeps.askSpecial {s : State} (h : s.Keeps strict) (ev : ExtEvent) : (s.askSpecial ev).2.Keeps strict := by
  unfold State.askSpecial
  split
  · exact h.logEvent _
  · exact (h.withExt _).logEvent ev

theorem State.Keeps.applySpecial {s : State} (h : s.Keeps strict) (ans : SpecialAnswer) :
    (s.applySpecial ans).Keeps strict := (h.applySram _).applyLayoutB _

theorem State.Keeps.callSpecial {s : State} (h : s.Keeps strict) (ev : ExtEvent) : (s.callSpecial ev).2.Keeps strict := by
  have k := h.askSpecial ev
  unfold State.callSpecial
  split
  · rename_i e
    rw [e] at k
    exact k
  · rename_i e
    rw [e] at k
    exact k.applySpecial _

theorem State.Keeps.writeSpecial {s : State} (h : s.Keeps strict) (ev : ExtEvent) : (s.writeSpecial ev).Keeps strict := by
  have k := h.askSpecial ev
  unfold State.writeSpecial
  split
  · rename_i e
    rw [e] at k
    exact k
  · rename_i e
    rw [e] at k
    exact (k.applySpecial _).withMapper _

theorem State.Keeps.romWrite {s : State} (h : s.Keeps strict) (a : Word) (v : Byte) : (s.romWrite a v).Keeps strict := by
  simp only [State.romWrite]
  split
  · split
    · exact h.withMapper _
    · exact h
  · exact h.withMapper _
  · exact h.withMapper _
  · split
    · exact h.withMapper _
    · exact h.writeLatch v
  · exact h.withMapper _
  · exact h.withMapper _
  · exact h.withMapper _
  · exact h.withMapper _
  · exact h.writeSpecial _
  · exact h.withMapper _

/-! ### The OAM-DMA engine -/

/-- What the engine's steps keep. -/
structure DmaKeeps (s t : State) : Prop where
  steady : Steady s t
  io : t.io = s.io
  timer : t.timer = s.timer
  sched : t.sched = s.sched
  rtc : t.rtc = s.rtc
  wf : s.mem.wf = true → t.mem.wf = true
  idle : (s.dma.last = none → s.dma.atRest = true) → t.dma.last = none → t.dma.atRest = true

theorem DmaKeeps.refl (s : State) : DmaKeeps s s := ⟨Steady.refl s, rfl, rfl, rfl, rfl, id, id⟩

theorem DmaKeeps.trans {s t u : State} (h : DmaKeeps s t) (k : DmaKeeps t u) : DmaKeeps s u :=
  ⟨h.steady.trans k.steady, k.io.trans h.io, k.timer.trans h.timer, k.sched.trans h.sched, k.rtc.trans h.rtc, fun w => k.wf (h.wf w),
    fun w => k.idle (h.idle w)⟩

/-- A source read changes nothing but the outside's answers. -/
theorem dmaSourceByte_state (p : Byte) (s : State) :
    ∃ e, (s.dmaSourceByte p).2 = { s with ext := e } := by
  simp only [State.dmaSourceByte]
  split
  · exact ⟨s.ext, rfl⟩
  · exact ⟨s.ext, rfl⟩
  · unfold State.dmaWindowByte
    split
    · exact ⟨s.ext, rfl⟩
    · exact ⟨s.ext, rfl⟩
    · exact ⟨s.ext, rfl⟩
    · exact ⟨s.ext, rfl⟩
    · simp only [State.peekSpecial]
      split
      · exact ⟨s.ext, rfl⟩
      · exact ⟨_, rfl⟩
  · exact ⟨s.ext, rfl⟩
  · exact ⟨s.ext, rfl⟩
  · exact ⟨s.ext, rfl⟩

theorem dmaStep_keeps (t : Int) (s : State) : DmaKeeps s (s.dmaStep t) := by
  refine ⟨steady_dmaStep t s, ?_, ?_, ?_, ?_, ?_, ?_⟩ <;> simp only [State.dmaStep]
  · split
    · obtain ⟨e, he⟩ := dmaSourceByte_state s.dma.advance.1
        { s with dma := { s.dma with last := some t, pos := s.dma.advance.1, startPos := s.dma.advance.2 } }
      rw [he]; rfl
    · split <;> rfl
  · split
    · obtain ⟨e, he⟩ := dmaSourceByte_state s.dma.advance.1
        { s with dma := { s.dma with last := some t, pos := s.dma.advance.1, startPos := s.dma.advance.2 } }
      rw [he]; rfl
    · split <;> rfl
  · split
    · obtain ⟨e, he⟩ := dmaSourceByte_state s.dma.advance.1
        { s with dma := { s.dma with last := some t, pos := s.dma.advance.1, startPos := s.dma.advance.2 } }
      rw [he]; rfl
    · split <;> rfl
  · split
    · obtain ⟨e, he⟩ := dmaSourceByte_state s.dma.advance.1
        { s with dma := { s.dma with last := some t, pos := s.dma.advance.1, startPos := s.dma.advance.2 } }
      rw [he]; rfl
    · split <;> rfl
  · intro w
    split
    · obtain ⟨e, he⟩ := dmaSourceByte_state s.dma.advance.1
        { s with dma := { s.dma with last := some t, pos := s.dma.advance.1, startPos := s.dma.advance.2 } }
      rw [he]
      exact setByte_wf w _ _ _
    · split <;> exact w
  · intro _ hn
    split at hn
    · obtain ⟨e, he⟩ := dmaSourceByte_state s.dma.advance.1
        { s with dma := { s.dma with last := some t, pos := s.dma.advance.1, startPos := s.dma.advance.2 } }
      rw [he] at hn
      cases hn
    · split at hn
      · rename_i h1 h2
        rw [if_neg h1, if_pos h2]
        simp [OamDma.atRest, h2.2]
      · cases hn

theorem dmaSteps_keeps (n : Nat) (s : State) : DmaKeeps s (s.dmaSteps n) := by
  induction n generalizing s with
  | zero => exact DmaKeeps.refl s
  | succ n ih =>
    simp only [State.dmaSteps]
    split
    · exact DmaKeeps.refl s
    · exact (dmaStep_keeps _ s).trans (ih _)

theorem State.Keeps.dmaCatchUp {s : State} (h : s.Keeps strict) (t : Int) : (s.dmaCatchUp t).Keeps strict := by
  simp only [State.dmaCatchUp]
  split
  · exact h
  · have k := dmaSteps_keeps (s.dmaDue t) s
    generalize s.dmaSteps (s.dmaDue t) = u at k ⊢
    have hc := k.steady.cpu
    have hg : u.cgb = s.cgb := by simp only [State.cgb, k.steady.params]
    refine ⟨k.wf h.memories, ?_, ?_, ?_, k.idle h.dmaIdle, rfl, ?_, ?_, ?_, k.steady.params ▸ h.resetRecord,
      k.rtc ▸ h.divisor⟩
    · show u.cpu.f &&& 0x0F#8 = 0x00#8
      rw [hc]; exact h.flags
    · show u.cpu.stopped = true → u.cpu.halted = true
      rw [hc]; exact h.stopHalted
    · show u.cgb = false → u.cpu.doubleSpeed = false ∧ u.io.prepare = false
      rw [hg, hc, k.io]; exact h.dmgSpeed
    · show u.cpu.stopped = false → u.sched.tima = u.timaDeadline
      have e : u.timaDeadline = s.timaDeadline := by simp only [State.timaDeadline, k.timer, hc]
      rw [e, hc, k.sched]; exact h.timaSlot
    · show strict = true → u.sched.interrupts.isSome = u.interruptDeadline.isSome
      have e : u.interruptDeadline = s.interruptDeadline := by
        unfold State.interruptDeadline State.pending
        rw [hc, k.io]
      rw [e, k.sched]; exact h.interruptSlot
    · show ∀ c, u.cart = some c → c.wf = true
      rw [k.steady.cart]; exact h.cartridge

theorem State.Keeps.writeDma {s : State} (h : s.Keeps strict) (v : Byte) : (s.writeDma v).Keeps strict :=
  ⟨h.memories, h.flags, h.stopHalted, h.dmgSpeed, (fun w => by cases w), rfl, h.timaSlot, h.interruptSlot, h.cartridge, h.resetRecord, h.divisor⟩

/-! ### The bus -/

theorem State.Keeps.ifCatchUp {s : State} (h : s.Keeps strict) : s.ifCatchUp.Keeps strict := (h.timerCatchUp _).callExt _ _

theorem State.Keeps.ioRead {s : State} (h : s.Keeps strict) (a : Word) : (s.ioRead a).2.Keeps strict := by
  unfold State.ioRead
  split
  · exact h.poll.callExt _ _
  · exact h.timerCatchUp _
  · exact h.timerCatchUp _
  · exact h
  · exact h
  · exact h.ifCatchUp
  · exact h
  · exact h
  · exact h
  · exact h
  · exact h.callExt _ _

theorem State.Keeps.writeKey1 {s : State} (h : s.Keeps strict) (v : Byte) : (s.writeKey1 v).Keeps strict := by
  unfold State.writeKey1
  split
  · rename_i hg
    exact ⟨h.memories, h.flags, h.stopHalted, (fun w => by rw [show s.cgb = false from w] at hg; cases hg), h.dmaIdle,
      h.dmaDeadline, h.timaSlot, h.interruptSlot, h.cartridge, h.resetRecord, h.divisor⟩
  · exact h

theorem State.Keeps.ioWrite {s : State} (h : s.Keeps strict) (a : Word) (v : Byte) : (s.ioWrite a v).Keeps strict := by
  unfold State.ioWrite
  split
  · exact h.writeDiv
  · exact h.writeTima v
  · exact h.writeTma v
  · exact h.writeTac v
  · exact h.ifCatchUp.setIf _
  · exact h.writeDma v
  · exact h.writeKey1 v
  · unfold State.writeVbk
    split
    · exact h.congr h.memories rfl rfl rfl
    · exact h
  · unfold State.writeSvbk
    split
    · exact h.congr h.memories rfl rfl rfl
    · exact h
  · exact h.callExt _ _

theorem State.Keeps.cartWindowRead {s : State} (h : s.Keeps strict) (a : Word) : (s.cartWindowRead a).2.Keeps strict := by
  unfold State.cartWindowRead
  split
  · exact h
  · exact h.drive _
  · exact h.drive _
  · exact h.drive _
  · exact (h.callSpecial _).drive _

theorem State.Keeps.cartWindowWrite {s : State} (h : s.Keeps strict) (a : Word) (v : Byte) : (s.cartWindowWrite a v).Keeps strict := by
  unfold State.cartWindowWrite
  split
  · exact h
  · split
    · exact (h.setByte _ _ _).drive _
    · exact h
  · exact (h.setByte _ _ _).drive _
  · exact (h.rtcWrite _ _).drive _
  · exact (h.callSpecial _).drive _

theorem State.Keeps.decodedRead {s : State} (h : s.Keeps strict) (a : Word) : (s.decodedRead a).2.Keeps strict := by
  unfold State.decodedRead
  split
  · exact h.drive _
  · exact h.drive _
  · exact h.askVram
  · exact h.cartWindowRead a
  · exact h
  · exact h
  · exact h.askOam
  · exact h.askOam
  · exact h.ioRead a
  · exact h
  · exact h

theorem State.Keeps.decodedWrite {s : State} (h : s.Keeps strict) (a : Word) (v : Byte) : (s.decodedWrite a v).Keeps strict := by
  unfold State.decodedWrite
  split
  · exact (h.drive v).romWrite a v
  · exact (h.drive v).romWrite a v
  · unfold State.vramWrite
    split
    · exact h.askVram.setByte _ _ _
    · exact h.askVram
  · exact h.cartWindowWrite a v
  · exact h.setByte _ _ _
  · exact h.setByte _ _ _
  · unfold State.oamPageWrite
    split
    · exact h.askOam.setByte _ _ _
    · exact h.askOam
  · unfold State.oamPageWrite
    split
    · exact h.askOam.setByte _ _ _
    · exact h.askOam
  · exact h.ioWrite a v
  · exact h.setByte _ _ _
  · exact h.setIe v

theorem State.Keeps.busCatchUp {s : State} (h : s.Keeps strict) (a : Word) : (s.busCatchUp a).Keeps strict := by
  unfold State.busCatchUp
  split
  · exact h.dmaCatchUp _
  · exact h

theorem State.Keeps.busRead {s : State} (h : s.Keeps strict) (a : Word) : (s.busRead a).2.Keeps strict := by
  simp only [State.busRead]
  split
  · exact h.busCatchUp a
  · exact (h.busCatchUp a).decodedRead a

theorem State.Keeps.busWrite {s : State} (h : s.Keeps strict) (a : Word) (v : Byte) : (s.busWrite a v).Keeps strict := by
  simp only [State.busWrite]
  split
  · exact (h.busCatchUp a).setByte _ _ _
  · exact (h.busCatchUp a).decodedWrite a v

/-! ### The primitives -/

theorem State.Keeps.memRead {s : State} (h : s.Keeps strict) (a : Word) : (s.memRead a).2.Keeps strict := (h.busRead a).addCc 4
theorem State.Keeps.memWrite {s : State} (h : s.Keeps strict) (a : Word) (v : Byte) : (s.memWrite a v).Keeps strict := (h.busWrite a v).addCc 4
theorem State.Keeps.fetch8 {s : State} (h : s.Keeps strict) : s.fetch8.2.Keeps strict := (h.memRead _).setPc _

theorem State.Keeps.fetchBytes {s : State} (h : s.Keeps strict) (n : Nat) : (s.fetchBytes n).2.Keeps strict := by
  induction n generalizing s with
  | zero => exact h
  | succ n ih => exact ih h.fetch8

theorem State.Keeps.push16 {s : State} (h : s.Keeps strict) (v : Word) : (s.push16 v).Keeps strict :=
  (((h.setSp _).memWrite _ _).setSp _).memWrite _ _

theorem State.Keeps.popByte {s : State} (h : s.Keeps strict) : s.popByte.2.Keeps strict := (h.memRead _).setSp _
theorem State.Keeps.pop16 {s : State} (h : s.Keeps strict) : s.pop16.2.Keeps strict := h.popByte.popByte

theorem State.Keeps.fetchOpcode {s : State} (h : s.Keeps strict) : s.fetchOpcode.2.Keeps strict := by
  unfold State.fetchOpcode
  split
  · exact h.congr h.memories rfl rfl rfl
  · exact h.fetch8

theorem State.Keeps.fetchInstr {s : State} (h : s.Keeps strict) : s.fetchInstr.2.Keeps strict := h.fetchOpcode.fetchBytes _

theorem State.Keeps.readOperand {s : State} (h : s.Keeps strict) (r : Operand) : (s.readOperand r).2.Keeps strict := by
  cases r
  · exact h
  · exact h.memRead _

theorem State.Keeps.writeOperand {s : State} (h : s.Keeps strict) (r : Operand) (v : Byte) : (s.writeOperand r v).Keeps strict := by
  cases r
  · exact h.setReg8 _ _
  · exact h.memWrite _ _

end Sys2Proof.Machine
end

