-- ==== Sys2Proof/Laws/InvariantExec.lean ====
section
/-! SUPPORT. The shared operations of the instruction families, of the slots and of the host's calls keep the
invariant of Safety.lean. -/

namespace Sys2Proof.Machine

variable {strict : Bool}

/-! ### Instruction families -/

theorem State.Keeps.loadReg {s : State} (h : s.Keeps strict) (r : Reg8) (a : Word) : (s.loadReg r a).Keeps strict := (h.memRead a).setReg8 r _
theorem State.Keeps.storeReg {s : State} (h : s.Keeps strict) (a : Word) (r : Reg8) : (s.storeReg a r).Keeps strict := h.memWrite a _
theorem State.Keeps.stepHL {s : State} (h : s.Keeps strict) (d : Word) : (s.stepHL d).Keeps strict := h.setReg16 _ _
theorem State.Keeps.jump {s : State} (h : s.Keeps strict) (a : Word) : (s.jump a).Keeps strict := (h.setPc a).tick
theorem State.Keeps.callTo {s : State} (h : s.Keeps strict) (a : Word) : (s.callTo a).Keeps strict := (h.tick.push16 _).setPc a
theorem State.Keeps.returnTo {s : State} (h : s.Keeps strict) : s.returnTo.Keeps strict := (h.pop16.setPc _).tick
theorem State.Keeps.addA {s : State} (h : s.Keeps strict) (v : Byte) (c : Bool) : (s.addA v c).Keeps strict := (h.setReg8 _ _).setFlags _ _ _ _
theorem State.Keeps.compareA {s : State} (h : s.Keeps strict) (v : Byte) (c : Bool) : (s.compareA v c).Keeps strict := h.setFlags _ _ _ _
theorem State.Keeps.subA {s : State} (h : s.Keeps strict) (v : Byte) (c : Bool) : (s.subA v c).Keeps strict := (h.compareA v c).setReg8 _ _
theorem State.Keeps.logicA {s : State} (h : s.Keeps strict) (r : Byte) (b : Bool) : (s.logicA r b).Keeps strict :=
  (h.setReg8 _ _).setFlags _ _ _ _
theorem State.Keeps.daa {s : State} (h : s.Keeps strict) : s.daa.Keeps strict := (h.setReg8 _ _).setFlags _ _ _ _
theorem State.Keeps.addHL {s : State} (h : s.Keeps strict) (v : Word) : (s.addHL v).Keeps strict := (h.setReg16 _ _).setFlags _ _ _ _
theorem State.Keeps.incReg {s : State} (h : s.Keeps strict) (r : Reg8) : (s.incReg r).Keeps strict := (h.setReg8 _ _).setFlags _ _ _ _
theorem State.Keeps.decReg {s : State} (h : s.Keeps strict) (r : Reg8) : (s.decReg r).Keeps strict := (h.setReg8 _ _).setFlags _ _ _ _
theorem State.Keeps.incMem {s : State} (h : s.Keeps strict) : s.incMem.Keeps strict := ((h.memRead _).memWrite _ _).setFlags _ _ _ _
theorem State.Keeps.decMem {s : State} (h : s.Keeps strict) : s.decMem.Keeps strict := ((h.memRead _).memWrite _ _).setFlags _ _ _ _
theorem State.Keeps.storeSp {s : State} (h : s.Keeps strict) (a : Word) : (s.storeSp a).Keeps strict := (h.memWrite _ _).memWrite _ _
theorem State.Keeps.spPlus {s : State} (h : s.Keeps strict) (e : Byte) : (s.spPlus e).Keeps strict :=
  ((State.Keeps.setFlags h _ _ _ _).setReg16 _ _).tick
theorem State.Keeps.addSp {s : State} (h : s.Keeps strict) (e : Byte) : (s.addSp e).Keeps strict :=
  ((State.Keeps.setFlags h _ _ _ _).setSp _).tick.tick
theorem State.Keeps.pushPair {s : State} (h : s.Keeps strict) (r : Reg16) : (s.pushPair r).Keeps strict := h.tick.push16 _
theorem State.Keeps.popPair {s : State} (h : s.Keeps strict) (r : Reg16) : (s.popPair r).Keeps strict := h.pop16.setReg16 _ _
theorem State.Keeps.addPair {s : State} (h : s.Keeps strict) (r : Reg16) (d : Word) : (s.addPair r d).Keeps strict := (h.setReg16 _ _).tick
theorem State.Keeps.rotate {s : State} (h : s.Keeps strict) (f : Byte → Bool → Byte × Bool) (r : Operand) : (s.rotate f r).Keeps strict :=
  ((h.readOperand r).writeOperand r _).setFlags _ _ _ _
theorem State.Keeps.rotateA {s : State} (h : s.Keeps strict) (f : Byte → Bool → Byte × Bool) : (s.rotateA f).Keeps strict :=
  (h.setReg8 _ _).setFlags _ _ _ _
theorem State.Keeps.testBit {s : State} (h : s.Keeps strict) (b : Nat) (r : Operand) : (s.testBit b r).Keeps strict :=
  (h.readOperand r).setFlags _ _ _ _
theorem State.Keeps.changeBit {s : State} (h : s.Keeps strict) (f : Byte → Byte) (r : Operand) : (s.changeBit f r).Keeps strict :=
  (h.readOperand r).writeOperand r _

theorem State.Keeps.jumpIf {s : State} (h : s.Keeps strict) (k : Cond) (a : Word) : (s.jumpIf k a).Keeps strict := by
  unfold State.jumpIf
  split
  · exact h.jump a
  · exact h

theorem State.Keeps.relativeIf {s : State} (h : s.Keeps strict) (k : Cond) (e : Byte) : (s.relativeIf k e).Keeps strict := by
  unfold State.relativeIf
  split
  · exact h.jump _
  · exact h

theorem State.Keeps.callIf {s : State} (h : s.Keeps strict) (k : Cond) (a : Word) : (s.callIf k a).Keeps strict := by
  unfold State.callIf
  split
  · exact h.callTo a
  · exact h

theorem State.Keeps.returnIf {s : State} (h : s.Keeps strict) (k : Cond) : (s.returnIf k).Keeps strict := by
  unfold State.returnIf
  split
  · exact h.tick.returnTo
  · exact h.tick

/-- Every accumulator operation on the byte at `HL`. -/
theorem State.Keeps.withMem {s : State} (h : s.Keeps strict) (f : Byte → State → State)
    (hf : ∀ v (u : State), u.Keeps strict → (f v u).Keeps strict) : (s.withMem f).Keeps strict := hf _ _ (h.memRead _)

/-- Changing `ime` and `minIntTime`, then recomputing the slot. -/
theorem State.Keeps.withIme {s : State} (h : s.Keeps strict) (b : Bool) (m : Int) :
    State.Keeps strict { s with cpu := { s.cpu with ime := b, minIntTime := m } }.intRecompute :=
  h.recompute (t := { s with cpu := { s.cpu with ime := b, minIntTime := m } }) h.memories rfl h.stopHalted rfl rfl rfl
    rfl rfl rfl rfl id rfl

theorem State.Keeps.interruptReturn {s : State} (h : s.Keeps strict) : s.interruptReturn.Keeps strict :=
  (h.pop16.setPc _).tick.withIme true _

theorem State.Keeps.disableInterrupts {s : State} (h : s.Keeps strict) : s.disableInterrupts.Keeps strict := h.withIme false s.cpu.minIntTime
theorem State.Keeps.enableInterrupts {s : State} (h : s.Keeps strict) : s.enableInterrupts.Keeps strict := h.withIme true (s.cc + 1)

theorem State.Keeps.lockUp {s : State} (h : s.Keeps strict) : s.lockUp.Keeps strict :=
  ⟨h.memories, h.flags, fun _ => rfl, h.dmgSpeed, h.dmaIdle, h.dmaDeadline, h.timaSlot, fun _ => rfl, h.cartridge, h.resetRecord, h.divisor⟩

theorem State.Keeps.haltBug {s : State} (h : s.Keeps strict) : s.haltBug.Keeps strict :=
  (h.busRead s.cpu.pc).congr (h.busRead s.cpu.pc).memories rfl rfl rfl

theorem State.Keeps.haltProper {s : State} (h : s.Keeps strict) : s.haltProper.Keeps strict := by
  have k := h.busRead s.cpu.pc
  exact k.recompute (t := { (s.busRead s.cpu.pc).2 with cpu := { (s.busRead s.cpu.pc).2.cpu with
      latch := (s.busRead s.cpu.pc).1, pc := (s.busRead s.cpu.pc).2.cpu.pc + 1, prefetched := true, halted := true } })
    k.memories rfl (fun _ => rfl) rfl rfl rfl rfl rfl rfl rfl id rfl

theorem State.Keeps.halt {s : State} (h : s.Keeps strict) : s.halt.Keeps strict := by
  simp only [State.halt]
  split
  · exact (h.timerCatchUp _).haltBug
  · split
    · exact (h.timerCatchUp _).setPc _
    · exact (h.timerCatchUp _).haltProper

/-- The speed switch, on the model that has one. -/
theorem State.Keeps.switchSpeed {s : State} (h : s.Keeps strict) (hg : s.cgb = true) : s.switchSpeed.Keeps strict := by
  have k := h.rtcAdvance s.cc
  have kg : (s.rtcAdvance s.cc).cgb = true := by
    rw [show (s.rtcAdvance s.cc).cgb = s.cgb by simp only [State.cgb, (steady_rtcAdvance s.cc s).params]]
    exact hg
  have e : State.Keeps strict { s.rtcAdvance s.cc with
      cpu := { (s.rtcAdvance s.cc).cpu with doubleSpeed := !(s.rtcAdvance s.cc).cpu.doubleSpeed, halted := true }
      io := { (s.rtcAdvance s.cc).io with prepare := false } }.intRecompute :=
    ⟨k.memories, k.flags, fun _ => rfl,
      (fun w => by rw [show (s.rtcAdvance s.cc).cgb = false from w] at kg; cases kg), k.dmaIdle, k.dmaDeadline, k.timaSlot,
      fun _ => rfl, k.cartridge, k.resetRecord, k.divisor⟩
  exact e.congr e.memories rfl rfl rfl

theorem State.Keeps.stopProper {s : State} (h : s.Keeps strict) : s.stopProper.Keeps strict := by
  have k := h.dmaCatchUp s.cc
  exact ⟨k.memories, k.flags, fun _ => rfl, k.dmgSpeed, k.dmaIdle, k.dmaDeadline, (fun w => by cases w), fun _ => rfl, k.cartridge, k.resetRecord, k.divisor⟩

theorem State.Keeps.stop {s : State} (h : s.Keeps strict) : s.stop.Keeps strict := by
  have k := (h.setPc (s.cpu.pc + 1)).writeDiv
  simp only [State.stop]
  split
  · rename_i hg
    exact k.switchSpeed (by simpa using (Bool.and_eq_true _ _ ▸ hg).1)
  · exact k.stopProper

theorem State.Keeps.prefixed {s : State} (h : s.Keeps strict) (b : Byte) : (s.prefixed b).Keeps strict := by
  simp only [State.prefixed]
  split
  · exact h.rotate _ _
  · exact h.testBit _ _
  · exact h.changeBit _ _
  · exact h.changeBit _ _

/-! ### Interrupts and slots -/

theorem State.Keeps.undoPrefetch {s : State} (h : s.Keeps strict) : s.undoPrefetch.Keeps strict := by
  unfold State.undoPrefetch
  split
  · exact h.congr h.memories rfl rfl rfl
  · exact h

/-- A state up to its interrupt slot: any change of `ime`, `IF` and `minIntTime`. -/
theorem State.Keeps.stale {s t : State} (h : s.Keeps strict) (hm : t.mem = s.mem) (hf : t.cpu.f = s.cpu.f)
    (hsh : t.cpu.stopped = true → t.cpu.halted = true) (hds : t.cpu.doubleSpeed = s.cpu.doubleSpeed)
    (hg : t.params = s.params) (hp : t.io.prepare = s.io.prepare) (hd : t.dma = s.dma)
    (ho : t.sched.oamDma = s.sched.oamDma) (hc : t.cart = s.cart) (htm : t.timer = s.timer)
    (hts : t.cpu.stopped = s.cpu.stopped) (hti : t.sched.tima = s.sched.tima) (hr : t.rtc = s.rtc := by rfl) :
    t.Keeps false := by
  refine ⟨hm ▸ h.memories, hf ▸ h.flags, hsh, ?_, ?_, ?_, ?_, nofun, ?_, hg ▸ h.resetRecord, hr ▸ h.divisor⟩
  · rw [show t.cgb = s.cgb by simp only [State.cgb, hg], hds, hp]; exact h.dmgSpeed
  · rw [hd]; exact h.dmaIdle
  · rw [hd, ho]; exact h.dmaDeadline
  · intro hs
    have hs2 : s.cpu.stopped = false := hts ▸ hs
    rw [hti, h.timaSlot hs2]
    simp only [State.timaDeadline, htm, hs, hs2]
  · rw [hc]; exact h.cartridge

theorem State.Keeps.dispatchHigh {s : State} (h : s.Keeps strict) : s.dispatchHigh.Keeps false := by
  have k0 : (s.undoPrefetch.setIme false).Keeps false :=
    h.undoPrefetch.stale rfl rfl h.undoPrefetch.stopHalted rfl rfl rfl rfl rfl rfl rfl rfl rfl
  exact ((k0.tick.tick.setSp _).memWrite _ _).timerCatchUp _

theorem State.Keeps.enterVector {s : State} (h : s.Keeps strict) (p : BitVec 5) : (s.enterVector p).Keeps false := by
  unfold State.enterVector
  split
  · exact (h.setPc _).relax
  · exact (h.stale (t := { s with io := { s.io with ifr := clearBit (lowestBit p) s.io.ifr } }) rfl rfl h.stopHalted rfl rfl
      rfl rfl rfl rfl rfl rfl rfl).setPc _

/-- The end of an operation that recomputes the interrupt slot. -/
theorem State.Keeps.settle {anew : Bool} {s : State} (h : s.Keeps strict) : s.intRecompute.Keeps anew :=
  h.recompute (t := s) h.memories rfl h.stopHalted rfl rfl rfl rfl rfl rfl rfl id rfl

theorem State.Keeps.interruptDispatch {anew : Bool} {s : State} (h : s.Keeps strict) :
    s.interruptDispatch.Keeps anew :=
  ((((h.dispatchHigh).setSp _).memWrite _ _).enterVector _).tick.settle

/-- The INTERRUPTS slot fires only while not stopped (60_exceptions.md R346). -/
theorem State.Keeps.fireInterrupts {anew : Bool} {s : State} (h : s.Keeps strict) (hs : s.cpu.stopped = false) :
    s.fireInterrupts.Keeps anew := by
  have k : s.wake.Keeps false := by
    unfold State.wake
    split
    · exact h.stale rfl rfl (fun w => by rw [show s.cpu.stopped = true from w] at hs; cases hs) rfl rfl rfl rfl rfl rfl rfl
        rfl rfl
    · exact h.relax
  simp only [State.fireInterrupts]
  split
  · exact (k.interruptDispatch (anew := false)).settle
  · exact k.settle

theorem option_map_shift (o : Option Int) (d e : Int) : (o.map (· + d)).map (· + e) = (o.map (· + e)).map (· + d) := by
  cases o
  · rfl
  · simp only [Option.map_some, Option.some.injEq]
    omega

theorem State.Keeps.endStop {s : State} (h : s.Keeps strict) (hs : s.cpu.stopped = true) : s.endStop.Keeps false := by
  have k : State.Keeps false { s with
      sched := s.sched.delayDevices (s.cc - s.cpu.stopStart)
      dma := { s.dma with last := s.dma.last.map (· + (s.cc - s.cpu.stopStart)) }
      timer := { s.timer with divBase := s.cc, timaLast := s.cc } } := by
    refine ⟨h.memories, h.flags, h.stopHalted, h.dmgSpeed, ?_, ?_, ?_, nofun, h.cartridge, h.resetRecord, h.divisor⟩
    · intro w
      exact h.dmaIdle (by cases e : s.dma.last <;> simp_all)
    · show s.sched.oamDma.map (· + (s.cc - s.cpu.stopStart)) =
        (s.dma.last.map (· + (s.cc - s.cpu.stopStart))).map (· + 4)
      rw [h.dmaDeadline, option_map_shift]
    · intro w
      rw [show s.cpu.stopped = false from w] at hs
      cases hs
  have k2 := k.callExt false (.resume (s.cc - s.cpu.stopStart) s.cc)
  exact ⟨k2.memories, k2.flags, nofun, k2.dmgSpeed, k2.dmaIdle, k2.dmaDeadline, fun _ => rfl, nofun, k2.cartridge, k2.resetRecord, k2.divisor⟩

theorem State.endStop_stopped (s : State) : s.endStop.cpu.stopped = false := rfl

theorem State.Keeps.fireUnhalt {anew : Bool} {s : State} (h : s.Keeps strict) : s.fireUnhalt.Keeps anew := by
  simp only [State.fireUnhalt]
  split
  · rename_i hs
    have k := h.endStop hs
    exact (k.stale (t := { s.endStop with cpu := { s.endStop.cpu with halted := false } }.setSlot .unhalt none) rfl rfl
      (fun w => by cases w) rfl rfl rfl rfl rfl rfl rfl rfl rfl).settle
  · rename_i hs
    exact (h.stale (t := { s with cpu := { s.cpu with halted := false } }.setSlot .unhalt none) rfl rfl
      (fun w => absurd w hs) rfl rfl rfl rfl rfl rfl rfl rfl rfl).settle

theorem Timer.overflowAt_lower (tm : Timer) (d : Int) :
    Timer.overflowAt { tm with timaLast := tm.timaLast - d, divBase := tm.divBase - d } = tm.overflowAt - d := by
  simp only [Timer.overflowAt]
  have : tm.timaLast - d - (tm.divBase - d) = tm.timaLast - tm.divBase := by omega
  rw [this]
  omega

theorem State.Keeps.lowerStamps {s : State} (h : s.Keeps strict) (d : Int) : (s.lowerStamps d).Keeps strict := by
  refine ⟨h.memories, h.flags, h.stopHalted, h.dmgSpeed, ?_, ?_, ?_, ?_, h.cartridge, h.resetRecord, h.divisor⟩
  · intro w
    exact h.dmaIdle (by
      have w' : s.dma.last.map (· - d) = none := w
      cases e : s.dma.last <;> simp_all)
  · show s.sched.oamDma.map (· - d) = (s.dma.last.map (· - d)).map (· + 4)
    rw [h.dmaDeadline]
    cases s.dma.last
    · rfl
    · simp only [Option.map_some, Option.some.injEq]
      omega
  · intro hs
    have hs' : s.cpu.stopped = false := hs
    show s.sched.tima.map (· - d) = (s.lowerStamps d).timaDeadline
    rw [h.timaSlot hs']
    have e := Timer.overflowAt_lower s.timer d
    unfold State.timaDeadline State.lowerStamps
    simp only [e]
    split <;> rfl
  · intro w
    show (s.sched.interrupts.map (· - d)).isSome = (s.lowerStamps d).interruptDeadline.isSome
    rw [Option.isSome_map, h.interruptSlot w, interruptDeadline_isSome, interruptDeadline_isSome]
    rfl

theorem State.Keeps.rebase {s : State} (h : s.Keeps strict) : s.rebase.Keeps strict :=
  ((((h.timerCatchUp _).dmaCatchUp _).rtcAdvance _).lowerStamps _).logEvent _

theorem State.Keeps.endRun {s : State} (h : s.Keeps strict) : s.endRun.Keeps strict := by
  have k := (h.setSlot .endRun none nofun nofun nofun).logEvent (.runReturned (s.cc - s.ext.runStart))
  simp only [State.endRun]
  split
  · exact k.rebase
  · exact k

/-! ### Host calls -/

theorem State.Keeps.beginRun {s : State} (h : s.Keeps strict) (n : Nat) : (s.beginRun n).Keeps strict := by
  simp only [State.beginRun]
  refine State.Keeps.setSlot ?_ .endRun _ nofun nofun nofun
  apply State.Keeps.withExt
  split
  · split
    · exact h.poll.setSlot _ _ nofun nofun nofun
    · exact h.poll
  · exact h

theorem State.Keeps.setBaseTime {s : State} (h : s.Keeps strict) (ts : Int) : (s.setBaseTime ts).Keeps strict :=
  (h.rtcAdvance _).withRtc _

theorem State.Keeps.setDivisorOffset {s : State} (h : s.Keeps strict) (o : Int) :
    (s.setDivisorOffset o).Keeps strict := by
  unfold State.setDivisorOffset
  split
  · rename_i ho
    have k := h.rtcAdvance s.cc
    exact ⟨k.memories, k.flags, k.stopHalted, k.dmgSpeed, k.dmaIdle, k.dmaDeadline, k.timaSlot, k.interruptSlot,
      k.cartridge, k.resetRecord, ho⟩
  · exact h

/-- A reset leaves the invariant, whatever its record, once the timer's and the interrupts' slots are recomputed
(70_reset_and_hazards.md R550). -/
theorem keeps_atReset (p : Params) (cart : Option Cart) (mem : Mems) (regs : RtcContents) (q : Int) (ext : External)
    (hp : p.resetOk = true) (hm : mem.wf = true) (hc : ∀ c, cart = some c → c.wf = true) :
    (State.atReset p cart mem regs q ext).timaReschedule.intRecompute.Keeps strict := by
  have hp' := hp
  simp only [Params.resetOk, Bool.and_eq_true, Bool.or_eq_true, Bool.not_eq_true', decide_eq_true_eq] at hp'
  obtain ⟨⟨h1, h2⟩, h3⟩ := hp'
  refine ⟨hm, h1, ?_, ?_, fun _ => rfl, rfl, fun _ => rfl, fun _ => rfl, hc, hp, (by decide : 0 < rtcDivisor + 0)⟩
  · intro w
    have w' : p.reset.cpu.stopped = true := w
    show p.reset.cpu.halted = true
    rcases h2 with h2 | h2
    · rw [w'] at h2; cases h2
    · exact h2
  · intro w
    have w' : decide (p.model = .cgb) = false := w
    rcases h3 with h3 | h3
    · simp [h3] at w'
    · exact h3

theorem State.Keeps.hostReset {s : State} (h : s.Keeps strict) (r : Option RtcContents) : (s.hostReset r).Keeps strict :=
  (keeps_atReset _ _ _ _ _ _ h.resetRecord h.memories h.cartridge).callExt _ _

theorem romBanksOf_ge {c : Byte} {n : Nat} (h : romBanksOf c = some n) : 2 ≤ n := by
  unfold romBanksOf at h
  split at h
  · cases h
    have : 0 < 2 ^ c.toNat := Nat.two_pow_pos _
    omega
  · cases h

theorem ramSizeOf_wf {c : Byte} {r : Nat × Nat} (h : ramSizeOf c = some r) :
    r.2 = r.1 * 0x2000 ∨ (r.1 = 0 ∧ r.2 = 2048) := by
  unfold ramSizeOf at h
  split at h <;> cases h <;> simp

theorem CartType.ramSize_wf {t : CartType} {c : Byte} {r : Nat × Nat} (h : t.ramSize c = some r) :
    r.2 = r.1 * 0x2000 ∨ (r.1 = 0 ∧ r.2 = 2048) := by
  unfold CartType.ramSize at h
  split at h
  · exact ramSizeOf_wf h
  · cases h; exact .inl rfl

/-- The loader only makes well-formed cartridges (62_mbc.md R434). -/
theorem loadCart_wf {q : LoadRequest} {k : Cart} (h : loadCart q = .ok k) : k.wf = true := by
  unfold loadCart headerCart at h
  split at h
  · cases h
  · split at h
    · cases h
    · split at h
      · cases h
      · split at h
        · cases h
        · rename_i hn
          split at h
          · cases h
          · rename_i hr
            split at h
            · cases h
            · cases h
              have h1 := romBanksOf_ge hn
              have h2 := CartType.ramSize_wf hr
              simp only [Cart.wf, CartType.cart, Bool.and_eq_true, Bool.or_eq_true]
              exact ⟨decide_eq_true h1, h2.imp (fun h => decide_eq_true h)
                (fun h => ⟨decide_eq_true h.1, decide_eq_true h.2⟩)⟩

theorem LoadRequest.mems_wf (q : LoadRequest) {m : Mems} (h : m.wf = true) : (q.mems m).wf = true := by
  unfold LoadRequest.mems
  split
  · exact h
  · rename_i f _
    exact Mems.wf_set (Mems.wf_set h .rom (Memory.wf_ofCells _)) .sram (Memory.wf_ofCells _)

theorem State.Keeps.hostLoad {s : State} (h : s.Keeps strict) (q : LoadRequest) : (s.hostLoad q).Keeps strict := by
  unfold State.hostLoad
  split
  · refine State.Keeps.logEvent ?_ _
    exact ⟨h.memories, h.flags, h.stopHalted, h.dmgSpeed, h.dmaIdle, h.dmaDeadline, h.timaSlot, h.interruptSlot, nofun,
      h.resetRecord, h.divisor⟩
  · rename_i c hc
    refine State.Keeps.logEvent (State.Keeps.hostReset ?_ _) _
    exact ⟨q.mems_wf h.memories, h.flags, h.stopHalted, h.dmgSpeed, h.dmaIdle, h.dmaDeadline, h.timaSlot,
      h.interruptSlot, fun k e => by cases e; exact loadCart_wf hc, h.resetRecord, h.divisor⟩

theorem State.Keeps.hostCall {s : State} (h : s.Keeps strict) (c : HostCall) : (s.hostCall c).Keeps strict := by
  cases c with
  | runFor n => exact h.beginRun n
  | setBaseTime ts => exact h.setBaseTime ts
  | setDivisorOffset o => exact h.setDivisorOffset o
  | reset r => exact h.hostReset r
  | load q => exact h.hostLoad q

/-! ### Which slot fires -/

/-- What `firstDue` selects is one of the slots listed, and due. -/
theorem firstDue_spec (d : Deadlines) (cc : Int) (l : List Slot) (p : Slot × Int) (h : firstDue d cc l = some p) :
    p.1 ∈ l ∧ d.time p.1 = some p.2 ∧ p.2 ≤ cc := by
  induction l generalizing p with
  | nil => cases h
  | cons sl rest ih =>
    simp only [firstDue] at h
    split at h
    · obtain ⟨h1, h2⟩ := ih p h
      exact ⟨List.mem_cons_of_mem _ h1, h2⟩
    · rename_i t hsl _
      split at h
      · rename_i hle
        cases h
        exact ⟨List.mem_cons_self, hsl, hle⟩
      · cases h
    · rename_i t sl' t' hsl hr
      split at h
      · rename_i hle
        cases h
        exact ⟨List.mem_cons_self, hsl, hle.1⟩
      · cases h
        obtain ⟨h1, h2⟩ := ih _ hr
        exact ⟨List.mem_cons_of_mem _ h1, h2⟩

/-- While stopped the INTERRUPTS slot does not fire (60_exceptions.md R357). -/
theorem nextSlot_interrupts {s : State} (h : s.nextSlot = .interrupts) : s.cpu.stopped = false := by
  unfold State.nextSlot at h
  split at h
  · rename_i sl t e
    obtain ⟨hm, _⟩ := firstDue_spec _ _ _ _ e
    subst h
    cases hs : s.cpu.stopped
    · rfl
    · simp [State.candidates, hs] at hm
  · cases h

theorem State.Keeps.fire {s : State} (h : s.Keeps strict) (sl : Slot) (hs : sl = .interrupts → s.cpu.stopped = false) :
    (s.fire sl).Keeps strict := by
  cases sl
  · exact h.fireUnhalt
  · exact h.endRun
  · exact h.extFire _
  · exact h.extFire _
  · exact h.dmaCatchUp _
  · exact h.extFire _
  · exact h.timerCatchUp _
  · exact h.extFire _
  · exact h.fireInterrupts (hs rfl)

/-! ### Every instruction -/

/-- Every instruction keeps the invariant. -/
theorem exec_keeps (i : Instr) (s t : State) (h : s.Keeps strict) (e : exec i s = .next t) : t.Keeps strict := by
  cases i with
  | nop => cases e; exact h
  | ldBCImm _ => cases e; exact h.setReg16 _ _
  | ldIndBCA => cases e; exact h.storeReg _ _
  | incBC => cases e; exact h.addPair _ _
  | incB => cases e; exact h.incReg _
  | decB => cases e; exact h.decReg _
  | ldBImm _ => cases e; exact h.setReg8 _ _
  | rlca => cases e; exact h.rotateA _
  | ldIndA16SP _ => cases e; exact h.storeSp _
  | addHLBC => cases e; exact (h.addHL _).tick
  | ldAIndBC => cases e; exact h.loadReg _ _
  | decBC => cases e; exact h.addPair _ _
  | incC => cases e; exact h.incReg _
  | decC => cases e; exact h.decReg _
  | ldCImm _ => cases e; exact h.setReg8 _ _
  | rrca => cases e; exact h.rotateA _
  | stop => cases e; exact h.stop
  | ldDEImm _ => cases e; exact h.setReg16 _ _
  | ldIndDEA => cases e; exact h.storeReg _ _
  | incDE => cases e; exact h.addPair _ _
  | incD => cases e; exact h.incReg _
  | decD => cases e; exact h.decReg _
  | ldDImm _ => cases e; exact h.setReg8 _ _
  | rla => cases e; exact h.rotateA _
  | jr _ => cases e; exact h.jump _
  | addHLDE => cases e; exact (h.addHL _).tick
  | ldAIndDE => cases e; exact h.loadReg _ _
  | decDE => cases e; exact h.addPair _ _
  | incE => cases e; exact h.incReg _
  | decE => cases e; exact h.decReg _
  | ldEImm _ => cases e; exact h.setReg8 _ _
  | rra => cases e; exact h.rotateA _
  | jrNZ _ => cases e; exact h.relativeIf _ _
  | ldHLImm _ => cases e; exact h.setReg16 _ _
  | ldIndHLIncA => cases e; exact (h.storeReg _ _).stepHL _
  | incHL => cases e; exact h.addPair _ _
  | incH => cases e; exact h.incReg _
  | decH => cases e; exact h.decReg _
  | ldHImm _ => cases e; exact h.setReg8 _ _
  | daa => cases e; exact h.daa
  | jrZ _ => cases e; exact h.relativeIf _ _
  | addHLHL => cases e; exact (h.addHL _).tick
  | ldAIndHLInc => cases e; exact (h.loadReg _ _).stepHL _
  | decHL => cases e; exact h.addPair _ _
  | incL => cases e; exact h.incReg _
  | decL => cases e; exact h.decReg _
  | ldLImm _ => cases e; exact h.setReg8 _ _
  | cpl => cases e; exact (h.setReg8 _ _).setFlags _ _ _ _
  | jrNC _ => cases e; exact h.relativeIf _ _
  | ldSPImm _ => cases e; exact h.setReg16 _ _
  | ldIndHLDecA => cases e; exact (h.storeReg _ _).stepHL _
  | incSP => cases e; exact h.addPair _ _
  | incIndHL => cases e; exact h.incMem
  | decIndHL => cases e; exact h.decMem
  | ldIndHLImm _ => cases e; exact h.memWrite _ _
  | scf => cases e; exact h.setFlags _ _ _ _
  | jrC _ => cases e; exact h.relativeIf _ _
  | addHLSP => cases e; exact (h.addHL _).tick
  | ldAIndHLDec => cases e; exact (h.loadReg _ _).stepHL _
  | decSP => cases e; exact h.addPair _ _
  | incA => cases e; exact h.incReg _
  | decA => cases e; exact h.decReg _
  | ldAImm _ => cases e; exact h.setReg8 _ _
  | ccf => cases e; exact h.setFlags _ _ _ _
  | ldBB => cases e; exact h.setReg8 _ _
  | ldBC => cases e; exact h.setReg8 _ _
  | ldBD => cases e; exact h.setReg8 _ _
  | ldBE => cases e; exact h.setReg8 _ _
  | ldBH => cases e; exact h.setReg8 _ _
  | ldBL => cases e; exact h.setReg8 _ _
  | ldBIndHL => cases e; exact h.loadReg _ _
  | ldBA => cases e; exact h.setReg8 _ _
  | ldCB => cases e; exact h.setReg8 _ _
  | ldCC => cases e; exact h.setReg8 _ _
  | ldCD => cases e; exact h.setReg8 _ _
  | ldCE => cases e; exact h.setReg8 _ _
  | ldCH => cases e; exact h.setReg8 _ _
  | ldCL => cases e; exact h.setReg8 _ _
  | ldCIndHL => cases e; exact h.loadReg _ _
  | ldCA => cases e; exact h.setReg8 _ _
  | ldDB => cases e; exact h.setReg8 _ _
  | ldDC => cases e; exact h.setReg8 _ _
  | ldDD => cases e; exact h.setReg8 _ _
  | ldDE => cases e; exact h.setReg8 _ _
  | ldDH => cases e; exact h.setReg8 _ _
  | ldDL => cases e; exact h.setReg8 _ _
  | ldDIndHL => cases e; exact h.loadReg _ _
  | ldDA => cases e; exact h.setReg8 _ _
  | ldEB => cases e; exact h.setReg8 _ _
  | ldEC => cases e; exact h.setReg8 _ _
  | ldED => cases e; exact h.setReg8 _ _
  | ldEE => cases e; exact h.setReg8 _ _
  | ldEH => cases e; exact h.setReg8 _ _
  | ldEL => cases e; exact h.setReg8 _ _
  | ldEIndHL => cases e; exact h.loadReg _ _
  | ldEA => cases e; exact h.setReg8 _ _
  | ldHB => cases e; exact h.setReg8 _ _
  | ldHC => cases e; exact h.setReg8 _ _
  | ldHD => cases e; exact h.setReg8 _ _
  | ldHE => cases e; exact h.setReg8 _ _
  | ldHH => cases e; exact h.setReg8 _ _
  | ldHL => cases e; exact h.setReg8 _ _
  | ldHIndHL => cases e; exact h.loadReg _ _
  | ldHA => cases e; exact h.setReg8 _ _
  | ldLB => cases e; exact h.setReg8 _ _
  | ldLC => cases e; exact h.setReg8 _ _
  | ldLD => cases e; exact h.setReg8 _ _
  | ldLE => cases e; exact h.setReg8 _ _
  | ldLH => cases e; exact h.setReg8 _ _
  | ldLL => cases e; exact h.setReg8 _ _
  | ldLIndHL => cases e; exact h.loadReg _ _
  | ldLA => cases e; exact h.setReg8 _ _
  | ldIndHLB => cases e; exact h.storeReg _ _
  | ldIndHLC => cases e; exact h.storeReg _ _
  | ldIndHLD => cases e; exact h.storeReg _ _
  | ldIndHLE => cases e; exact h.storeReg _ _
  | ldIndHLH => cases e; exact h.storeReg _ _
  | ldIndHLL => cases e; exact h.storeReg _ _
  | halt => cases e; exact h.halt
  | ldIndHLA => cases e; exact h.storeReg _ _
  | ldAB => cases e; exact h.setReg8 _ _
  | ldAC => cases e; exact h.setReg8 _ _
  | ldAD => cases e; exact h.setReg8 _ _
  | ldAE => cases e; exact h.setReg8 _ _
  | ldAH => cases e; exact h.setReg8 _ _
  | ldAL => cases e; exact h.setReg8 _ _
  | ldAIndHL => cases e; exact h.loadReg _ _
  | ldAA => cases e; exact h.setReg8 _ _
  | addAB => cases e; exact h.addA _ _
  | addAC => cases e; exact h.addA _ _
  | addAD => cases e; exact h.addA _ _
  | addAE => cases e; exact h.addA _ _
  | addAH => cases e; exact h.addA _ _
  | addAL => cases e; exact h.addA _ _
  | addAIndHL => cases e; exact (h.memRead _).addA _ _
  | addAA => cases e; exact h.addA _ _
  | adcAB => cases e; exact h.addA _ _
  | adcAC => cases e; exact h.addA _ _
  | adcAD => cases e; exact h.addA _ _
  | adcAE => cases e; exact h.addA _ _
  | adcAH => cases e; exact h.addA _ _
  | adcAL => cases e; exact h.addA _ _
  | adcAIndHL => cases e; exact (h.memRead _).addA _ _
  | adcAA => cases e; exact h.addA _ _
  | subB => cases e; exact h.subA _ _
  | subC => cases e; exact h.subA _ _
  | subD => cases e; exact h.subA _ _
  | subE => cases e; exact h.subA _ _
  | subH => cases e; exact h.subA _ _
  | subL => cases e; exact h.subA _ _
  | subIndHL => cases e; exact (h.memRead _).subA _ _
  | subA => cases e; exact h.subA _ _
  | sbcAB => cases e; exact h.subA _ _
  | sbcAC => cases e; exact h.subA _ _
  | sbcAD => cases e; exact h.subA _ _
  | sbcAE => cases e; exact h.subA _ _
  | sbcAH => cases e; exact h.subA _ _
  | sbcAL => cases e; exact h.subA _ _
  | sbcAIndHL => cases e; exact (h.memRead _).subA _ _
  | sbcAA => cases e; exact h.subA _ _
  | andB => cases e; exact h.logicA _ _
  | andC => cases e; exact h.logicA _ _
  | andD => cases e; exact h.logicA _ _
  | andE => cases e; exact h.logicA _ _
  | andH => cases e; exact h.logicA _ _
  | andL => cases e; exact h.logicA _ _
  | andIndHL => cases e; exact (h.memRead _).logicA _ _
  | andA => cases e; exact h.logicA _ _
  | xorB => cases e; exact h.logicA _ _
  | xorC => cases e; exact h.logicA _ _
  | xorD => cases e; exact h.logicA _ _
  | xorE => cases e; exact h.logicA _ _
  | xorH => cases e; exact h.logicA _ _
  | xorL => cases e; exact h.logicA _ _
  | xorIndHL => cases e; exact (h.memRead _).logicA _ _
  | xorA => cases e; exact h.logicA _ _
  | orB => cases e; exact h.logicA _ _
  | orC => cases e; exact h.logicA _ _
  | orD => cases e; exact h.logicA _ _
  | orE => cases e; exact h.logicA _ _
  | orH => cases e; exact h.logicA _ _
  | orL => cases e; exact h.logicA _ _
  | orIndHL => cases e; exact (h.memRead _).logicA _ _
  | orA => cases e; exact h.logicA _ _
  | cpB => cases e; exact h.compareA _ _
  | cpC => cases e; exact h.compareA _ _
  | cpD => cases e; exact h.compareA _ _
  | cpE => cases e; exact h.compareA _ _
  | cpH => cases e; exact h.compareA _ _
  | cpL => cases e; exact h.compareA _ _
  | cpIndHL => cases e; exact (h.memRead _).compareA _ _
  | cpA => cases e; exact h.compareA _ _
  | retNZ => cases e; exact h.returnIf _
  | popBC => cases e; exact h.popPair _
  | jpNZ _ => cases e; exact h.jumpIf _ _
  | jp _ => cases e; exact h.jump _
  | callNZ _ => cases e; exact h.callIf _ _
  | pushBC => cases e; exact h.pushPair _
  | addAImm _ => cases e; exact h.addA _ _
  | rst00 => cases e; exact h.callTo _
  | retZ => cases e; exact h.returnIf _
  | ret => cases e; exact h.returnTo
  | jpZ _ => cases e; exact h.jumpIf _ _
  | prefixCb => cases e; exact h.fetch8.prefixed _
  | callZ _ => cases e; exact h.callIf _ _
  | call _ => cases e; exact h.callTo _
  | adcAImm _ => cases e; exact h.addA _ _
  | rst08 => cases e; exact h.callTo _
  | retNC => cases e; exact h.returnIf _
  | popDE => cases e; exact h.popPair _
  | jpNC _ => cases e; exact h.jumpIf _ _
  | undefD3 => cases e; exact h.lockUp
  | callNC _ => cases e; exact h.callIf _ _
  | pushDE => cases e; exact h.pushPair _
  | subImm _ => cases e; exact h.subA _ _
  | rst10 => cases e; exact h.callTo _
  | retC => cases e; exact h.returnIf _
  | reti => cases e; exact h.interruptReturn
  | jpC _ => cases e; exact h.jumpIf _ _
  | undefDB => cases e; exact h.lockUp
  | callC _ => cases e; exact h.callIf _ _
  | undefDD => cases e; exact h.lockUp
  | sbcAImm _ => cases e; exact h.subA _ _
  | rst18 => cases e; exact h.callTo _
  | ldhIndA8A _ => cases e; exact h.storeReg _ _
  | popHL => cases e; exact h.popPair _
  | ldhIndCA => cases e; exact h.storeReg _ _
  | undefE3 => cases e; exact h.lockUp
  | undefE4 => cases e; exact h.lockUp
  | pushHL => cases e; exact h.pushPair _
  | andImm _ => cases e; exact h.logicA _ _
  | rst20 => cases e; exact h.callTo _
  | addSPImm _ => cases e; exact h.addSp _
  | jpHL => cases e; exact h.setPc _
  | ldIndA16A _ => cases e; exact h.storeReg _ _
  | undefEB => cases e; exact h.lockUp
  | undefEC => cases e; exact h.lockUp
  | undefED => cases e; exact h.lockUp
  | xorImm _ => cases e; exact h.logicA _ _
  | rst28 => cases e; exact h.callTo _
  | ldhAIndA8 _ => cases e; exact h.loadReg _ _
  | popAF => cases e; exact h.popPair _
  | ldhAIndC => cases e; exact h.loadReg _ _
  | di => cases e; exact h.disableInterrupts
  | undefF4 => cases e; exact h.lockUp
  | pushAF => cases e; exact h.pushPair _
  | orImm _ => cases e; exact h.logicA _ _
  | rst30 => cases e; exact h.callTo _
  | ldHLSPImm _ => cases e; exact h.spPlus _
  | ldSPHL => cases e; exact (h.setSp _).tick
  | ldAIndA16 _ => cases e; exact h.loadReg _ _
  | ei => cases e; exact h.enableInterrupts
  | undefFC => cases e; exact h.lockUp
  | undefFD => cases e; exact h.lockUp
  | cpImm _ => cases e; exact h.compareA _ _
  | rst38 => cases e; exact h.callTo _
  | rlc _ => cases e; exact h.rotate _ _
  | rrc _ => cases e; exact h.rotate _ _
  | rl _ => cases e; exact h.rotate _ _
  | rr _ => cases e; exact h.rotate _ _
  | sla _ => cases e; exact h.rotate _ _
  | sra _ => cases e; exact h.rotate _ _
  | swap _ => cases e; exact h.rotate _ _
  | srl _ => cases e; exact h.rotate _ _
  | bit0 _ => cases e; exact h.testBit _ _
  | bit1 _ => cases e; exact h.testBit _ _
  | bit2 _ => cases e; exact h.testBit _ _
  | bit3 _ => cases e; exact h.testBit _ _
  | bit4 _ => cases e; exact h.testBit _ _
  | bit5 _ => cases e; exact h.testBit _ _
  | bit6 _ => cases e; exact h.testBit _ _
  | bit7 _ => cases e; exact h.testBit _ _
  | res0 _ => cases e; exact h.changeBit _ _
  | res1 _ => cases e; exact h.changeBit _ _
  | res2 _ => cases e; exact h.changeBit _ _
  | res3 _ => cases e; exact h.changeBit _ _
  | res4 _ => cases e; exact h.changeBit _ _
  | res5 _ => cases e; exact h.changeBit _ _
  | res6 _ => cases e; exact h.changeBit _ _
  | res7 _ => cases e; exact h.changeBit _ _
  | set0 _ => cases e; exact h.changeBit _ _
  | set1 _ => cases e; exact h.changeBit _ _
  | set2 _ => cases e; exact h.changeBit _ _
  | set3 _ => cases e; exact h.changeBit _ _
  | set4 _ => cases e; exact h.changeBit _ _
  | set5 _ => cases e; exact h.changeBit _ _
  | set6 _ => cases e; exact h.changeBit _ _
  | set7 _ => cases e; exact h.changeBit _ _

end Sys2Proof.Machine
end

