-- ==== Sys2Proof/Laws/PerInstr.lean ====
section
/-! SUPPORT. For every instruction: its encoding has exactly the bytes a fetch takes for its first byte
(30_encoding.md R140, R157). `STOP` is apart: its second byte is skipped, not fetched (46_system.md R323). -/

namespace Sys2Proof.Laws.FetchLength

/-- A well-formed instruction other than `STOP` is its opcode and the operand bytes the opcode calls for. -/
def Statement (i : Instr) : Prop :=
  wellFormed i = true → i ≠ .stop → ∃ op rest, encode i = op :: rest ∧ rest.length = operandCount op

theorem ldBCImm (v : Word) : Statement (.ldBCImm v) := fun _ _ => ⟨_, _, rfl, rfl⟩

theorem ldBImm (v : Byte) : Statement (.ldBImm v) := fun _ _ => ⟨_, _, rfl, rfl⟩

theorem ldIndA16SP (a : Word) : Statement (.ldIndA16SP a) := fun _ _ => ⟨_, _, rfl, rfl⟩

theorem ldCImm (v : Byte) : Statement (.ldCImm v) := fun _ _ => ⟨_, _, rfl, rfl⟩

theorem ldDEImm (v : Word) : Statement (.ldDEImm v) := fun _ _ => ⟨_, _, rfl, rfl⟩

theorem ldDImm (v : Byte) : Statement (.ldDImm v) := fun _ _ => ⟨_, _, rfl, rfl⟩

theorem jr (e : Byte) : Statement (.jr e) := fun _ _ => ⟨_, _, rfl, rfl⟩

theorem ldEImm (v : Byte) : Statement (.ldEImm v) := fun _ _ => ⟨_, _, rfl, rfl⟩

theorem jrNZ (e : Byte) : Statement (.jrNZ e) := fun _ _ => ⟨_, _, rfl, rfl⟩

theorem ldHLImm (v : Word) : Statement (.ldHLImm v) := fun _ _ => ⟨_, _, rfl, rfl⟩

theorem ldHImm (v : Byte) : Statement (.ldHImm v) := fun _ _ => ⟨_, _, rfl, rfl⟩

theorem jrZ (e : Byte) : Statement (.jrZ e) := fun _ _ => ⟨_, _, rfl, rfl⟩

theorem ldLImm (v : Byte) : Statement (.ldLImm v) := fun _ _ => ⟨_, _, rfl, rfl⟩

theorem jrNC (e : Byte) : Statement (.jrNC e) := fun _ _ => ⟨_, _, rfl, rfl⟩

theorem ldSPImm (v : Word) : Statement (.ldSPImm v) := fun _ _ => ⟨_, _, rfl, rfl⟩

theorem ldIndHLImm (v : Byte) : Statement (.ldIndHLImm v) := fun _ _ => ⟨_, _, rfl, rfl⟩

theorem jrC (e : Byte) : Statement (.jrC e) := fun _ _ => ⟨_, _, rfl, rfl⟩

theorem ldAImm (v : Byte) : Statement (.ldAImm v) := fun _ _ => ⟨_, _, rfl, rfl⟩

theorem jpNZ (a : Word) : Statement (.jpNZ a) := fun _ _ => ⟨_, _, rfl, rfl⟩

theorem jp (a : Word) : Statement (.jp a) := fun _ _ => ⟨_, _, rfl, rfl⟩

theorem callNZ (a : Word) : Statement (.callNZ a) := fun _ _ => ⟨_, _, rfl, rfl⟩

theorem addAImm (v : Byte) : Statement (.addAImm v) := fun _ _ => ⟨_, _, rfl, rfl⟩

theorem jpZ (a : Word) : Statement (.jpZ a) := fun _ _ => ⟨_, _, rfl, rfl⟩

theorem callZ (a : Word) : Statement (.callZ a) := fun _ _ => ⟨_, _, rfl, rfl⟩

theorem call (a : Word) : Statement (.call a) := fun _ _ => ⟨_, _, rfl, rfl⟩

theorem adcAImm (v : Byte) : Statement (.adcAImm v) := fun _ _ => ⟨_, _, rfl, rfl⟩

theorem jpNC (a : Word) : Statement (.jpNC a) := fun _ _ => ⟨_, _, rfl, rfl⟩

theorem callNC (a : Word) : Statement (.callNC a) := fun _ _ => ⟨_, _, rfl, rfl⟩

theorem subImm (v : Byte) : Statement (.subImm v) := fun _ _ => ⟨_, _, rfl, rfl⟩

theorem jpC (a : Word) : Statement (.jpC a) := fun _ _ => ⟨_, _, rfl, rfl⟩

theorem callC (a : Word) : Statement (.callC a) := fun _ _ => ⟨_, _, rfl, rfl⟩

theorem sbcAImm (v : Byte) : Statement (.sbcAImm v) := fun _ _ => ⟨_, _, rfl, rfl⟩

theorem ldhIndA8A (v : Byte) : Statement (.ldhIndA8A v) := fun _ _ => ⟨_, _, rfl, rfl⟩

theorem andImm (v : Byte) : Statement (.andImm v) := fun _ _ => ⟨_, _, rfl, rfl⟩

theorem addSPImm (e : Byte) : Statement (.addSPImm e) := fun _ _ => ⟨_, _, rfl, rfl⟩

theorem ldIndA16A (a : Word) : Statement (.ldIndA16A a) := fun _ _ => ⟨_, _, rfl, rfl⟩

theorem xorImm (v : Byte) : Statement (.xorImm v) := fun _ _ => ⟨_, _, rfl, rfl⟩

theorem ldhAIndA8 (v : Byte) : Statement (.ldhAIndA8 v) := fun _ _ => ⟨_, _, rfl, rfl⟩

theorem orImm (v : Byte) : Statement (.orImm v) := fun _ _ => ⟨_, _, rfl, rfl⟩

theorem ldHLSPImm (e : Byte) : Statement (.ldHLSPImm e) := fun _ _ => ⟨_, _, rfl, rfl⟩

theorem ldAIndA16 (a : Word) : Statement (.ldAIndA16 a) := fun _ _ => ⟨_, _, rfl, rfl⟩

theorem cpImm (v : Byte) : Statement (.cpImm v) := fun _ _ => ⟨_, _, rfl, rfl⟩

theorem rlc (r : Operand) : Statement (.rlc r) := by
  intro _ _
  exact ⟨0xCB, _, rfl, rfl⟩

theorem rrc (r : Operand) : Statement (.rrc r) := by
  intro _ _
  exact ⟨0xCB, _, rfl, rfl⟩

theorem rl (r : Operand) : Statement (.rl r) := by
  intro _ _
  exact ⟨0xCB, _, rfl, rfl⟩

theorem rr (r : Operand) : Statement (.rr r) := by
  intro _ _
  exact ⟨0xCB, _, rfl, rfl⟩

theorem sla (r : Operand) : Statement (.sla r) := by
  intro _ _
  exact ⟨0xCB, _, rfl, rfl⟩

theorem sra (r : Operand) : Statement (.sra r) := by
  intro _ _
  exact ⟨0xCB, _, rfl, rfl⟩

theorem swap (r : Operand) : Statement (.swap r) := by
  intro _ _
  exact ⟨0xCB, _, rfl, rfl⟩

theorem srl (r : Operand) : Statement (.srl r) := by
  intro _ _
  exact ⟨0xCB, _, rfl, rfl⟩

theorem bit0 (r : Operand) : Statement (.bit0 r) := by
  intro _ _
  exact ⟨0xCB, _, rfl, rfl⟩

theorem bit1 (r : Operand) : Statement (.bit1 r) := by
  intro _ _
  exact ⟨0xCB, _, rfl, rfl⟩

theorem bit2 (r : Operand) : Statement (.bit2 r) := by
  intro _ _
  exact ⟨0xCB, _, rfl, rfl⟩

theorem bit3 (r : Operand) : Statement (.bit3 r) := by
  intro _ _
  exact ⟨0xCB, _, rfl, rfl⟩

theorem bit4 (r : Operand) : Statement (.bit4 r) := by
  intro _ _
  exact ⟨0xCB, _, rfl, rfl⟩

theorem bit5 (r : Operand) : Statement (.bit5 r) := by
  intro _ _
  exact ⟨0xCB, _, rfl, rfl⟩

theorem bit6 (r : Operand) : Statement (.bit6 r) := by
  intro _ _
  exact ⟨0xCB, _, rfl, rfl⟩

theorem bit7 (r : Operand) : Statement (.bit7 r) := by
  intro _ _
  exact ⟨0xCB, _, rfl, rfl⟩

theorem res0 (r : Operand) : Statement (.res0 r) := by
  intro _ _
  exact ⟨0xCB, _, rfl, rfl⟩

theorem res1 (r : Operand) : Statement (.res1 r) := by
  intro _ _
  exact ⟨0xCB, _, rfl, rfl⟩

theorem res2 (r : Operand) : Statement (.res2 r) := by
  intro _ _
  exact ⟨0xCB, _, rfl, rfl⟩

theorem res3 (r : Operand) : Statement (.res3 r) := by
  intro _ _
  exact ⟨0xCB, _, rfl, rfl⟩

theorem res4 (r : Operand) : Statement (.res4 r) := by
  intro _ _
  exact ⟨0xCB, _, rfl, rfl⟩

theorem res5 (r : Operand) : Statement (.res5 r) := by
  intro _ _
  exact ⟨0xCB, _, rfl, rfl⟩

theorem res6 (r : Operand) : Statement (.res6 r) := by
  intro _ _
  exact ⟨0xCB, _, rfl, rfl⟩

theorem res7 (r : Operand) : Statement (.res7 r) := by
  intro _ _
  exact ⟨0xCB, _, rfl, rfl⟩

theorem set0 (r : Operand) : Statement (.set0 r) := by
  intro _ _
  exact ⟨0xCB, _, rfl, rfl⟩

theorem set1 (r : Operand) : Statement (.set1 r) := by
  intro _ _
  exact ⟨0xCB, _, rfl, rfl⟩

theorem set2 (r : Operand) : Statement (.set2 r) := by
  intro _ _
  exact ⟨0xCB, _, rfl, rfl⟩

theorem set3 (r : Operand) : Statement (.set3 r) := by
  intro _ _
  exact ⟨0xCB, _, rfl, rfl⟩

theorem set4 (r : Operand) : Statement (.set4 r) := by
  intro _ _
  exact ⟨0xCB, _, rfl, rfl⟩

theorem set5 (r : Operand) : Statement (.set5 r) := by
  intro _ _
  exact ⟨0xCB, _, rfl, rfl⟩

theorem set6 (r : Operand) : Statement (.set6 r) := by
  intro _ _
  exact ⟨0xCB, _, rfl, rfl⟩

theorem set7 (r : Operand) : Statement (.set7 r) := by
  intro _ _
  exact ⟨0xCB, _, rfl, rfl⟩

theorem nop : Statement (.nop) := fun _ _ => ⟨_, _, rfl, rfl⟩

theorem ldIndBCA : Statement (.ldIndBCA) := fun _ _ => ⟨_, _, rfl, rfl⟩

theorem incBC : Statement (.incBC) := fun _ _ => ⟨_, _, rfl, rfl⟩

theorem incB : Statement (.incB) := fun _ _ => ⟨_, _, rfl, rfl⟩

theorem decB : Statement (.decB) := fun _ _ => ⟨_, _, rfl, rfl⟩

theorem rlca : Statement (.rlca) := fun _ _ => ⟨_, _, rfl, rfl⟩

theorem addHLBC : Statement (.addHLBC) := fun _ _ => ⟨_, _, rfl, rfl⟩

theorem ldAIndBC : Statement (.ldAIndBC) := fun _ _ => ⟨_, _, rfl, rfl⟩

theorem decBC : Statement (.decBC) := fun _ _ => ⟨_, _, rfl, rfl⟩

theorem incC : Statement (.incC) := fun _ _ => ⟨_, _, rfl, rfl⟩

theorem decC : Statement (.decC) := fun _ _ => ⟨_, _, rfl, rfl⟩

theorem rrca : Statement (.rrca) := fun _ _ => ⟨_, _, rfl, rfl⟩

theorem stop : Statement (.stop) := fun _ h => absurd rfl h

theorem ldIndDEA : Statement (.ldIndDEA) := fun _ _ => ⟨_, _, rfl, rfl⟩

theorem incDE : Statement (.incDE) := fun _ _ => ⟨_, _, rfl, rfl⟩

theorem incD : Statement (.incD) := fun _ _ => ⟨_, _, rfl, rfl⟩

theorem decD : Statement (.decD) := fun _ _ => ⟨_, _, rfl, rfl⟩

theorem rla : Statement (.rla) := fun _ _ => ⟨_, _, rfl, rfl⟩

theorem addHLDE : Statement (.addHLDE) := fun _ _ => ⟨_, _, rfl, rfl⟩

theorem ldAIndDE : Statement (.ldAIndDE) := fun _ _ => ⟨_, _, rfl, rfl⟩

theorem decDE : Statement (.decDE) := fun _ _ => ⟨_, _, rfl, rfl⟩

theorem incE : Statement (.incE) := fun _ _ => ⟨_, _, rfl, rfl⟩

theorem decE : Statement (.decE) := fun _ _ => ⟨_, _, rfl, rfl⟩

theorem rra : Statement (.rra) := fun _ _ => ⟨_, _, rfl, rfl⟩

theorem ldIndHLIncA : Statement (.ldIndHLIncA) := fun _ _ => ⟨_, _, rfl, rfl⟩

theorem incHL : Statement (.incHL) := fun _ _ => ⟨_, _, rfl, rfl⟩

theorem incH : Statement (.incH) := fun _ _ => ⟨_, _, rfl, rfl⟩

theorem decH : Statement (.decH) := fun _ _ => ⟨_, _, rfl, rfl⟩

theorem daa : Statement (.daa) := fun _ _ => ⟨_, _, rfl, rfl⟩

theorem addHLHL : Statement (.addHLHL) := fun _ _ => ⟨_, _, rfl, rfl⟩

theorem ldAIndHLInc : Statement (.ldAIndHLInc) := fun _ _ => ⟨_, _, rfl, rfl⟩

theorem decHL : Statement (.decHL) := fun _ _ => ⟨_, _, rfl, rfl⟩

theorem incL : Statement (.incL) := fun _ _ => ⟨_, _, rfl, rfl⟩

theorem decL : Statement (.decL) := fun _ _ => ⟨_, _, rfl, rfl⟩

theorem cpl : Statement (.cpl) := fun _ _ => ⟨_, _, rfl, rfl⟩

theorem ldIndHLDecA : Statement (.ldIndHLDecA) := fun _ _ => ⟨_, _, rfl, rfl⟩

theorem incSP : Statement (.incSP) := fun _ _ => ⟨_, _, rfl, rfl⟩

theorem incIndHL : Statement (.incIndHL) := fun _ _ => ⟨_, _, rfl, rfl⟩

theorem decIndHL : Statement (.decIndHL) := fun _ _ => ⟨_, _, rfl, rfl⟩

theorem scf : Statement (.scf) := fun _ _ => ⟨_, _, rfl, rfl⟩

theorem addHLSP : Statement (.addHLSP) := fun _ _ => ⟨_, _, rfl, rfl⟩

theorem ldAIndHLDec : Statement (.ldAIndHLDec) := fun _ _ => ⟨_, _, rfl, rfl⟩

theorem decSP : Statement (.decSP) := fun _ _ => ⟨_, _, rfl, rfl⟩

theorem incA : Statement (.incA) := fun _ _ => ⟨_, _, rfl, rfl⟩

theorem decA : Statement (.decA) := fun _ _ => ⟨_, _, rfl, rfl⟩

theorem ccf : Statement (.ccf) := fun _ _ => ⟨_, _, rfl, rfl⟩

theorem ldBB : Statement (.ldBB) := fun _ _ => ⟨_, _, rfl, rfl⟩

theorem ldBC : Statement (.ldBC) := fun _ _ => ⟨_, _, rfl, rfl⟩

theorem ldBD : Statement (.ldBD) := fun _ _ => ⟨_, _, rfl, rfl⟩

theorem ldBE : Statement (.ldBE) := fun _ _ => ⟨_, _, rfl, rfl⟩

theorem ldBH : Statement (.ldBH) := fun _ _ => ⟨_, _, rfl, rfl⟩

theorem ldBL : Statement (.ldBL) := fun _ _ => ⟨_, _, rfl, rfl⟩

theorem ldBIndHL : Statement (.ldBIndHL) := fun _ _ => ⟨_, _, rfl, rfl⟩

theorem ldBA : Statement (.ldBA) := fun _ _ => ⟨_, _, rfl, rfl⟩

theorem ldCB : Statement (.ldCB) := fun _ _ => ⟨_, _, rfl, rfl⟩

theorem ldCC : Statement (.ldCC) := fun _ _ => ⟨_, _, rfl, rfl⟩

theorem ldCD : Statement (.ldCD) := fun _ _ => ⟨_, _, rfl, rfl⟩

theorem ldCE : Statement (.ldCE) := fun _ _ => ⟨_, _, rfl, rfl⟩

theorem ldCH : Statement (.ldCH) := fun _ _ => ⟨_, _, rfl, rfl⟩

theorem ldCL : Statement (.ldCL) := fun _ _ => ⟨_, _, rfl, rfl⟩

theorem ldCIndHL : Statement (.ldCIndHL) := fun _ _ => ⟨_, _, rfl, rfl⟩

theorem ldCA : Statement (.ldCA) := fun _ _ => ⟨_, _, rfl, rfl⟩

theorem ldDB : Statement (.ldDB) := fun _ _ => ⟨_, _, rfl, rfl⟩

theorem ldDC : Statement (.ldDC) := fun _ _ => ⟨_, _, rfl, rfl⟩

theorem ldDD : Statement (.ldDD) := fun _ _ => ⟨_, _, rfl, rfl⟩

theorem ldDE : Statement (.ldDE) := fun _ _ => ⟨_, _, rfl, rfl⟩

theorem ldDH : Statement (.ldDH) := fun _ _ => ⟨_, _, rfl, rfl⟩

theorem ldDL : Statement (.ldDL) := fun _ _ => ⟨_, _, rfl, rfl⟩

theorem ldDIndHL : Statement (.ldDIndHL) := fun _ _ => ⟨_, _, rfl, rfl⟩

theorem ldDA : Statement (.ldDA) := fun _ _ => ⟨_, _, rfl, rfl⟩

theorem ldEB : Statement (.ldEB) := fun _ _ => ⟨_, _, rfl, rfl⟩

theorem ldEC : Statement (.ldEC) := fun _ _ => ⟨_, _, rfl, rfl⟩

theorem ldED : Statement (.ldED) := fun _ _ => ⟨_, _, rfl, rfl⟩

theorem ldEE : Statement (.ldEE) := fun _ _ => ⟨_, _, rfl, rfl⟩

theorem ldEH : Statement (.ldEH) := fun _ _ => ⟨_, _, rfl, rfl⟩

theorem ldEL : Statement (.ldEL) := fun _ _ => ⟨_, _, rfl, rfl⟩

theorem ldEIndHL : Statement (.ldEIndHL) := fun _ _ => ⟨_, _, rfl, rfl⟩

theorem ldEA : Statement (.ldEA) := fun _ _ => ⟨_, _, rfl, rfl⟩

theorem ldHB : Statement (.ldHB) := fun _ _ => ⟨_, _, rfl, rfl⟩

theorem ldHC : Statement (.ldHC) := fun _ _ => ⟨_, _, rfl, rfl⟩

theorem ldHD : Statement (.ldHD) := fun _ _ => ⟨_, _, rfl, rfl⟩

theorem ldHE : Statement (.ldHE) := fun _ _ => ⟨_, _, rfl, rfl⟩

theorem ldHH : Statement (.ldHH) := fun _ _ => ⟨_, _, rfl, rfl⟩

theorem ldHL : Statement (.ldHL) := fun _ _ => ⟨_, _, rfl, rfl⟩

theorem ldHIndHL : Statement (.ldHIndHL) := fun _ _ => ⟨_, _, rfl, rfl⟩

theorem ldHA : Statement (.ldHA) := fun _ _ => ⟨_, _, rfl, rfl⟩

theorem ldLB : Statement (.ldLB) := fun _ _ => ⟨_, _, rfl, rfl⟩

theorem ldLC : Statement (.ldLC) := fun _ _ => ⟨_, _, rfl, rfl⟩

theorem ldLD : Statement (.ldLD) := fun _ _ => ⟨_, _, rfl, rfl⟩

theorem ldLE : Statement (.ldLE) := fun _ _ => ⟨_, _, rfl, rfl⟩

theorem ldLH : Statement (.ldLH) := fun _ _ => ⟨_, _, rfl, rfl⟩

theorem ldLL : Statement (.ldLL) := fun _ _ => ⟨_, _, rfl, rfl⟩

theorem ldLIndHL : Statement (.ldLIndHL) := fun _ _ => ⟨_, _, rfl, rfl⟩

theorem ldLA : Statement (.ldLA) := fun _ _ => ⟨_, _, rfl, rfl⟩

theorem ldIndHLB : Statement (.ldIndHLB) := fun _ _ => ⟨_, _, rfl, rfl⟩

theorem ldIndHLC : Statement (.ldIndHLC) := fun _ _ => ⟨_, _, rfl, rfl⟩

theorem ldIndHLD : Statement (.ldIndHLD) := fun _ _ => ⟨_, _, rfl, rfl⟩

theorem ldIndHLE : Statement (.ldIndHLE) := fun _ _ => ⟨_, _, rfl, rfl⟩

theorem ldIndHLH : Statement (.ldIndHLH) := fun _ _ => ⟨_, _, rfl, rfl⟩

theorem ldIndHLL : Statement (.ldIndHLL) := fun _ _ => ⟨_, _, rfl, rfl⟩

theorem halt : Statement (.halt) := fun _ _ => ⟨_, _, rfl, rfl⟩

theorem ldIndHLA : Statement (.ldIndHLA) := fun _ _ => ⟨_, _, rfl, rfl⟩

theorem ldAB : Statement (.ldAB) := fun _ _ => ⟨_, _, rfl, rfl⟩

theorem ldAC : Statement (.ldAC) := fun _ _ => ⟨_, _, rfl, rfl⟩

theorem ldAD : Statement (.ldAD) := fun _ _ => ⟨_, _, rfl, rfl⟩

theorem ldAE : Statement (.ldAE) := fun _ _ => ⟨_, _, rfl, rfl⟩

theorem ldAH : Statement (.ldAH) := fun _ _ => ⟨_, _, rfl, rfl⟩

theorem ldAL : Statement (.ldAL) := fun _ _ => ⟨_, _, rfl, rfl⟩

theorem ldAIndHL : Statement (.ldAIndHL) := fun _ _ => ⟨_, _, rfl, rfl⟩

theorem ldAA : Statement (.ldAA) := fun _ _ => ⟨_, _, rfl, rfl⟩

theorem addAB : Statement (.addAB) := fun _ _ => ⟨_, _, rfl, rfl⟩

theorem addAC : Statement (.addAC) := fun _ _ => ⟨_, _, rfl, rfl⟩

theorem addAD : Statement (.addAD) := fun _ _ => ⟨_, _, rfl, rfl⟩

theorem addAE : Statement (.addAE) := fun _ _ => ⟨_, _, rfl, rfl⟩

theorem addAH : Statement (.addAH) := fun _ _ => ⟨_, _, rfl, rfl⟩

theorem addAL : Statement (.addAL) := fun _ _ => ⟨_, _, rfl, rfl⟩

theorem addAIndHL : Statement (.addAIndHL) := fun _ _ => ⟨_, _, rfl, rfl⟩

theorem addAA : Statement (.addAA) := fun _ _ => ⟨_, _, rfl, rfl⟩

theorem adcAB : Statement (.adcAB) := fun _ _ => ⟨_, _, rfl, rfl⟩

theorem adcAC : Statement (.adcAC) := fun _ _ => ⟨_, _, rfl, rfl⟩

theorem adcAD : Statement (.adcAD) := fun _ _ => ⟨_, _, rfl, rfl⟩

theorem adcAE : Statement (.adcAE) := fun _ _ => ⟨_, _, rfl, rfl⟩

theorem adcAH : Statement (.adcAH) := fun _ _ => ⟨_, _, rfl, rfl⟩

theorem adcAL : Statement (.adcAL) := fun _ _ => ⟨_, _, rfl, rfl⟩

theorem adcAIndHL : Statement (.adcAIndHL) := fun _ _ => ⟨_, _, rfl, rfl⟩

theorem adcAA : Statement (.adcAA) := fun _ _ => ⟨_, _, rfl, rfl⟩

theorem subB : Statement (.subB) := fun _ _ => ⟨_, _, rfl, rfl⟩

theorem subC : Statement (.subC) := fun _ _ => ⟨_, _, rfl, rfl⟩

theorem subD : Statement (.subD) := fun _ _ => ⟨_, _, rfl, rfl⟩

theorem subE : Statement (.subE) := fun _ _ => ⟨_, _, rfl, rfl⟩

theorem subH : Statement (.subH) := fun _ _ => ⟨_, _, rfl, rfl⟩

theorem subL : Statement (.subL) := fun _ _ => ⟨_, _, rfl, rfl⟩

theorem subIndHL : Statement (.subIndHL) := fun _ _ => ⟨_, _, rfl, rfl⟩

theorem subA : Statement (.subA) := fun _ _ => ⟨_, _, rfl, rfl⟩

theorem sbcAB : Statement (.sbcAB) := fun _ _ => ⟨_, _, rfl, rfl⟩

theorem sbcAC : Statement (.sbcAC) := fun _ _ => ⟨_, _, rfl, rfl⟩

theorem sbcAD : Statement (.sbcAD) := fun _ _ => ⟨_, _, rfl, rfl⟩

theorem sbcAE : Statement (.sbcAE) := fun _ _ => ⟨_, _, rfl, rfl⟩

theorem sbcAH : Statement (.sbcAH) := fun _ _ => ⟨_, _, rfl, rfl⟩

theorem sbcAL : Statement (.sbcAL) := fun _ _ => ⟨_, _, rfl, rfl⟩

theorem sbcAIndHL : Statement (.sbcAIndHL) := fun _ _ => ⟨_, _, rfl, rfl⟩

theorem sbcAA : Statement (.sbcAA) := fun _ _ => ⟨_, _, rfl, rfl⟩

theorem andB : Statement (.andB) := fun _ _ => ⟨_, _, rfl, rfl⟩

theorem andC : Statement (.andC) := fun _ _ => ⟨_, _, rfl, rfl⟩

theorem andD : Statement (.andD) := fun _ _ => ⟨_, _, rfl, rfl⟩

theorem andE : Statement (.andE) := fun _ _ => ⟨_, _, rfl, rfl⟩

theorem andH : Statement (.andH) := fun _ _ => ⟨_, _, rfl, rfl⟩

theorem andL : Statement (.andL) := fun _ _ => ⟨_, _, rfl, rfl⟩

theorem andIndHL : Statement (.andIndHL) := fun _ _ => ⟨_, _, rfl, rfl⟩

theorem andA : Statement (.andA) := fun _ _ => ⟨_, _, rfl, rfl⟩

theorem xorB : Statement (.xorB) := fun _ _ => ⟨_, _, rfl, rfl⟩

theorem xorC : Statement (.xorC) := fun _ _ => ⟨_, _, rfl, rfl⟩

theorem xorD : Statement (.xorD) := fun _ _ => ⟨_, _, rfl, rfl⟩

theorem xorE : Statement (.xorE) := fun _ _ => ⟨_, _, rfl, rfl⟩

theorem xorH : Statement (.xorH) := fun _ _ => ⟨_, _, rfl, rfl⟩

theorem xorL : Statement (.xorL) := fun _ _ => ⟨_, _, rfl, rfl⟩

theorem xorIndHL : Statement (.xorIndHL) := fun _ _ => ⟨_, _, rfl, rfl⟩

theorem xorA : Statement (.xorA) := fun _ _ => ⟨_, _, rfl, rfl⟩

theorem orB : Statement (.orB) := fun _ _ => ⟨_, _, rfl, rfl⟩

theorem orC : Statement (.orC) := fun _ _ => ⟨_, _, rfl, rfl⟩

theorem orD : Statement (.orD) := fun _ _ => ⟨_, _, rfl, rfl⟩

theorem orE : Statement (.orE) := fun _ _ => ⟨_, _, rfl, rfl⟩

theorem orH : Statement (.orH) := fun _ _ => ⟨_, _, rfl, rfl⟩

theorem orL : Statement (.orL) := fun _ _ => ⟨_, _, rfl, rfl⟩

theorem orIndHL : Statement (.orIndHL) := fun _ _ => ⟨_, _, rfl, rfl⟩

theorem orA : Statement (.orA) := fun _ _ => ⟨_, _, rfl, rfl⟩

theorem cpB : Statement (.cpB) := fun _ _ => ⟨_, _, rfl, rfl⟩

theorem cpC : Statement (.cpC) := fun _ _ => ⟨_, _, rfl, rfl⟩

theorem cpD : Statement (.cpD) := fun _ _ => ⟨_, _, rfl, rfl⟩

theorem cpE : Statement (.cpE) := fun _ _ => ⟨_, _, rfl, rfl⟩

theorem cpH : Statement (.cpH) := fun _ _ => ⟨_, _, rfl, rfl⟩

theorem cpL : Statement (.cpL) := fun _ _ => ⟨_, _, rfl, rfl⟩

theorem cpIndHL : Statement (.cpIndHL) := fun _ _ => ⟨_, _, rfl, rfl⟩

theorem cpA : Statement (.cpA) := fun _ _ => ⟨_, _, rfl, rfl⟩

theorem retNZ : Statement (.retNZ) := fun _ _ => ⟨_, _, rfl, rfl⟩

theorem popBC : Statement (.popBC) := fun _ _ => ⟨_, _, rfl, rfl⟩

theorem pushBC : Statement (.pushBC) := fun _ _ => ⟨_, _, rfl, rfl⟩

theorem rst00 : Statement (.rst00) := fun _ _ => ⟨_, _, rfl, rfl⟩

theorem retZ : Statement (.retZ) := fun _ _ => ⟨_, _, rfl, rfl⟩

theorem ret : Statement (.ret) := fun _ _ => ⟨_, _, rfl, rfl⟩

theorem prefixCb : Statement (.prefixCb) := fun h _ => absurd h (by decide)

theorem rst08 : Statement (.rst08) := fun _ _ => ⟨_, _, rfl, rfl⟩

theorem retNC : Statement (.retNC) := fun _ _ => ⟨_, _, rfl, rfl⟩

theorem popDE : Statement (.popDE) := fun _ _ => ⟨_, _, rfl, rfl⟩

theorem undefD3 : Statement (.undefD3) := fun _ _ => ⟨_, _, rfl, rfl⟩

theorem pushDE : Statement (.pushDE) := fun _ _ => ⟨_, _, rfl, rfl⟩

theorem rst10 : Statement (.rst10) := fun _ _ => ⟨_, _, rfl, rfl⟩

theorem retC : Statement (.retC) := fun _ _ => ⟨_, _, rfl, rfl⟩

theorem reti : Statement (.reti) := fun _ _ => ⟨_, _, rfl, rfl⟩

theorem undefDB : Statement (.undefDB) := fun _ _ => ⟨_, _, rfl, rfl⟩

theorem undefDD : Statement (.undefDD) := fun _ _ => ⟨_, _, rfl, rfl⟩

theorem rst18 : Statement (.rst18) := fun _ _ => ⟨_, _, rfl, rfl⟩

theorem popHL : Statement (.popHL) := fun _ _ => ⟨_, _, rfl, rfl⟩

theorem ldhIndCA : Statement (.ldhIndCA) := fun _ _ => ⟨_, _, rfl, rfl⟩

theorem undefE3 : Statement (.undefE3) := fun _ _ => ⟨_, _, rfl, rfl⟩

theorem undefE4 : Statement (.undefE4) := fun _ _ => ⟨_, _, rfl, rfl⟩

theorem pushHL : Statement (.pushHL) := fun _ _ => ⟨_, _, rfl, rfl⟩

theorem rst20 : Statement (.rst20) := fun _ _ => ⟨_, _, rfl, rfl⟩

theorem jpHL : Statement (.jpHL) := fun _ _ => ⟨_, _, rfl, rfl⟩

theorem undefEB : Statement (.undefEB) := fun _ _ => ⟨_, _, rfl, rfl⟩

theorem undefEC : Statement (.undefEC) := fun _ _ => ⟨_, _, rfl, rfl⟩

theorem undefED : Statement (.undefED) := fun _ _ => ⟨_, _, rfl, rfl⟩

theorem rst28 : Statement (.rst28) := fun _ _ => ⟨_, _, rfl, rfl⟩

theorem popAF : Statement (.popAF) := fun _ _ => ⟨_, _, rfl, rfl⟩

theorem ldhAIndC : Statement (.ldhAIndC) := fun _ _ => ⟨_, _, rfl, rfl⟩

theorem di : Statement (.di) := fun _ _ => ⟨_, _, rfl, rfl⟩

theorem undefF4 : Statement (.undefF4) := fun _ _ => ⟨_, _, rfl, rfl⟩

theorem pushAF : Statement (.pushAF) := fun _ _ => ⟨_, _, rfl, rfl⟩

theorem rst30 : Statement (.rst30) := fun _ _ => ⟨_, _, rfl, rfl⟩

theorem ldSPHL : Statement (.ldSPHL) := fun _ _ => ⟨_, _, rfl, rfl⟩

theorem ei : Statement (.ei) := fun _ _ => ⟨_, _, rfl, rfl⟩

theorem undefFC : Statement (.undefFC) := fun _ _ => ⟨_, _, rfl, rfl⟩

theorem undefFD : Statement (.undefFD) := fun _ _ => ⟨_, _, rfl, rfl⟩

theorem rst38 : Statement (.rst38) := fun _ _ => ⟨_, _, rfl, rfl⟩

end Sys2Proof.Laws.FetchLength
end

