-- ==== Sys2Proof/Laws/Run.lean ====
section
/-! SUPPORT. What one step is, in a run and between runs: the cases of `step`, for later proofs to cite instead of
unfolding it. -/

namespace Sys2Proof.Machine

theorem minDeadline_isSome_left {x y : Option Int} (h : x.isSome = true) : (minDeadline x y).isSome = true := by
  cases x <;> cases y <;> simp_all [minDeadline]

theorem minDeadline_isSome_right {x y : Option Int} (h : y.isSome = true) : (minDeadline x y).isSome = true := by
  cases x <;> cases y <;> simp_all [minDeadline]

/-- In a run there is a deadline: END counts whether the CPU is stopped or not. -/
theorem State.runMin_isSome {s : State} (h : s.sched.endRun.isSome = true) : s.runMin.isSome = true := by
  unfold State.runMin
  split
  · exact minDeadline_isSome_right h
  · exact minDeadline_isSome_right (minDeadline_isSome_left h)

theorem State.nextCall_inRun {s : State} (h : s.sched.endRun.isSome = true) : s.nextCall = none := by
  obtain ⟨e, h⟩ := Option.isSome_iff_exists.mp h
  simp [State.nextCall, h]

/-- In a run of an instance that can run, a step is one pass of the run loop. -/
theorem step_inRun {s : State} (h : s.sched.endRun.isSome = true) (hr : s.cannotRun = none) : step s = runLoop s := by
  simp [step, machineStep, State.nextCall_inRun h, State.inRun, h, runMachine, hr]

theorem runLoop_instruction {s : State} {m : Int} (h : s.runMin = some m) (hm : s.cc < m)
    (hh : s.cpu.halted = false) : runLoop s = executeInstruction s := by simp [runLoop, h, hm, hh]

theorem runLoop_halted {s : State} {m : Int} (h : s.runMin = some m) (hm : s.cc < m) (hh : s.cpu.halted = true) :
    runLoop s = .next (s.addCc (haltedAdvance s.cc m)) := by simp [runLoop, h, hm, hh]

theorem runLoop_slot {s : State} (h : reached s.runMin s.cc = true) : runLoop s = .next (s.fire s.nextSlot) := by
  cases hm : s.runMin <;> simp_all [reached, runLoop]

/-- Between runs with no host call waiting a step changes nothing. -/
theorem step_idle {s : State} (h : s.sched.endRun = none) (hc : s.ext.calls = []) : step s = .next s := by
  simp [step, machineStep, State.nextCall, State.inRun, h, hc]

/-- Between runs a step makes the next host call. -/
theorem step_hostCall {s : State} {c : HostCall} {rest : List HostCall} (h : s.sched.endRun = none)
    (hc : s.ext.calls = c :: rest) : step s = runHostCall c { s with ext := { s.ext with calls := rest } } := by
  simp [step, machineStep, State.nextCall, h, hc]

end Sys2Proof.Machine
end

