-- ==== Sys2Proof/Tests/Slice0.lean ====
section
/-! SUPPORT. The model's own tests: the well-formedness check, one written-out word per constructor (words of
30_encoding.md R143 and R151 to R155), single steps with the values of 95_test_vectors.md section 2, and a witness for
the hypotheses of every obligation. -/

namespace Sys2Proof.Tests

open Sys2Proof.Machine Sys2Proof.Family

/-! ### Well-formedness -/

/-- The one ill-formed term: a prefix with no second byte is no instruction of its own (46_system.md R325). -/
theorem test_wellFormed_refuses_lone_prefix : wellFormed .prefixCb = false := by decide

theorem test_wellFormed_accepts : wellFormed (.rlc .indHL) = true ∧ wellFormed .undefD3 = true := by decide

/-! ### Decoding -/

def words0 : List (Nat × Nat × Instr) :=
  [(8, 0x00, .nop), (24, 0x341201, .ldBCImm 0x3412), (8, 0x02, .ldIndBCA), (8, 0x03, .incBC), (8, 0x04, .incB),
   (8, 0x05, .decB), (16, 0x9C06, .ldBImm 0x9C), (8, 0x07, .rlca), (24, 0x341208, .ldIndA16SP 0x3412),
   (8, 0x09, .addHLBC), (8, 0x0A, .ldAIndBC), (8, 0x0B, .decBC), (8, 0x0C, .incC), (8, 0x0D, .decC),
   (16, 0x9C0E, .ldCImm 0x9C), (8, 0x0F, .rrca), (16, 0x5510, .stop), (24, 0x341211, .ldDEImm 0x3412),
   (8, 0x12, .ldIndDEA), (8, 0x13, .incDE), (8, 0x14, .incD), (8, 0x15, .decD), (16, 0x9C16, .ldDImm 0x9C),
   (8, 0x17, .rla)]

def words1 : List (Nat × Nat × Instr) :=
  [(16, 0x9C18, .jr 0x9C), (8, 0x19, .addHLDE), (8, 0x1A, .ldAIndDE), (8, 0x1B, .decDE), (8, 0x1C, .incE),
   (8, 0x1D, .decE), (16, 0x9C1E, .ldEImm 0x9C), (8, 0x1F, .rra), (16, 0x9C20, .jrNZ 0x9C),
   (24, 0x341221, .ldHLImm 0x3412), (8, 0x22, .ldIndHLIncA), (8, 0x23, .incHL), (8, 0x24, .incH), (8, 0x25, .decH),
   (16, 0x9C26, .ldHImm 0x9C), (8, 0x27, .daa), (16, 0x9C28, .jrZ 0x9C), (8, 0x29, .addHLHL),
   (8, 0x2A, .ldAIndHLInc), (8, 0x2B, .decHL), (8, 0x2C, .incL), (8, 0x2D, .decL), (16, 0x9C2E, .ldLImm 0x9C),
   (8, 0x2F, .cpl)]

def words2 : List (Nat × Nat × Instr) :=
  [(16, 0x9C30, .jrNC 0x9C), (24, 0x341231, .ldSPImm 0x3412), (8, 0x32, .ldIndHLDecA), (8, 0x33, .incSP),
   (8, 0x34, .incIndHL), (8, 0x35, .decIndHL), (16, 0x9C36, .ldIndHLImm 0x9C), (8, 0x37, .scf),
   (16, 0x9C38, .jrC 0x9C), (8, 0x39, .addHLSP), (8, 0x3A, .ldAIndHLDec), (8, 0x3B, .decSP), (8, 0x3C, .incA),
   (8, 0x3D, .decA), (16, 0x9C3E, .ldAImm 0x9C), (8, 0x3F, .ccf), (8, 0x40, .ldBB), (8, 0x41, .ldBC),
   (8, 0x42, .ldBD), (8, 0x43, .ldBE), (8, 0x44, .ldBH), (8, 0x45, .ldBL), (8, 0x46, .ldBIndHL), (8, 0x47, .ldBA)]

def words3 : List (Nat × Nat × Instr) :=
  [(8, 0x48, .ldCB), (8, 0x49, .ldCC), (8, 0x4A, .ldCD), (8, 0x4B, .ldCE), (8, 0x4C, .ldCH), (8, 0x4D, .ldCL),
   (8, 0x4E, .ldCIndHL), (8, 0x4F, .ldCA), (8, 0x50, .ldDB), (8, 0x51, .ldDC), (8, 0x52, .ldDD), (8, 0x53, .ldDE),
   (8, 0x54, .ldDH), (8, 0x55, .ldDL), (8, 0x56, .ldDIndHL), (8, 0x57, .ldDA), (8, 0x58, .ldEB), (8, 0x59, .ldEC),
   (8, 0x5A, .ldED), (8, 0x5B, .ldEE), (8, 0x5C, .ldEH), (8, 0x5D, .ldEL), (8, 0x5E, .ldEIndHL), (8, 0x5F, .ldEA)]

def words4 : List (Nat × Nat × Instr) :=
  [(8, 0x60, .ldHB), (8, 0x61, .ldHC), (8, 0x62, .ldHD), (8, 0x63, .ldHE), (8, 0x64, .ldHH), (8, 0x65, .ldHL),
   (8, 0x66, .ldHIndHL), (8, 0x67, .ldHA), (8, 0x68, .ldLB), (8, 0x69, .ldLC), (8, 0x6A, .ldLD), (8, 0x6B, .ldLE),
   (8, 0x6C, .ldLH), (8, 0x6D, .ldLL), (8, 0x6E, .ldLIndHL), (8, 0x6F, .ldLA), (8, 0x70, .ldIndHLB),
   (8, 0x71, .ldIndHLC), (8, 0x72, .ldIndHLD), (8, 0x73, .ldIndHLE), (8, 0x74, .ldIndHLH), (8, 0x75, .ldIndHLL),
   (8, 0x76, .halt), (8, 0x77, .ldIndHLA)]

def words5 : List (Nat × Nat × Instr) :=
  [(8, 0x78, .ldAB), (8, 0x79, .ldAC), (8, 0x7A, .ldAD), (8, 0x7B, .ldAE), (8, 0x7C, .ldAH), (8, 0x7D, .ldAL),
   (8, 0x7E, .ldAIndHL), (8, 0x7F, .ldAA), (8, 0x80, .addAB), (8, 0x81, .addAC), (8, 0x82, .addAD),
   (8, 0x83, .addAE), (8, 0x84, .addAH), (8, 0x85, .addAL), (8, 0x86, .addAIndHL), (8, 0x87, .addAA),
   (8, 0x88, .adcAB), (8, 0x89, .adcAC), (8, 0x8A, .adcAD), (8, 0x8B, .adcAE), (8, 0x8C, .adcAH), (8, 0x8D, .adcAL),
   (8, 0x8E, .adcAIndHL), (8, 0x8F, .adcAA)]

def words6 : List (Nat × Nat × Instr) :=
  [(8, 0x90, .subB), (8, 0x91, .subC), (8, 0x92, .subD), (8, 0x93, .subE), (8, 0x94, .subH), (8, 0x95, .subL),
   (8, 0x96, .subIndHL), (8, 0x97, .subA), (8, 0x98, .sbcAB), (8, 0x99, .sbcAC), (8, 0x9A, .sbcAD),
   (8, 0x9B, .sbcAE), (8, 0x9C, .sbcAH), (8, 0x9D, .sbcAL), (8, 0x9E, .sbcAIndHL), (8, 0x9F, .sbcAA),
   (8, 0xA0, .andB), (8, 0xA1, .andC), (8, 0xA2, .andD), (8, 0xA3, .andE), (8, 0xA4, .andH), (8, 0xA5, .andL),
   (8, 0xA6, .andIndHL), (8, 0xA7, .andA)]

def words7 : List (Nat × Nat × Instr) :=
  [(8, 0xA8, .xorB), (8, 0xA9, .xorC), (8, 0xAA, .xorD), (8, 0xAB, .xorE), (8, 0xAC, .xorH), (8, 0xAD, .xorL),
   (8, 0xAE, .xorIndHL), (8, 0xAF, .xorA), (8, 0xB0, .orB), (8, 0xB1, .orC), (8, 0xB2, .orD), (8, 0xB3, .orE),
   (8, 0xB4, .orH), (8, 0xB5, .orL), (8, 0xB6, .orIndHL), (8, 0xB7, .orA), (8, 0xB8, .cpB), (8, 0xB9, .cpC),
   (8, 0xBA, .cpD), (8, 0xBB, .cpE), (8, 0xBC, .cpH), (8, 0xBD, .cpL), (8, 0xBE, .cpIndHL), (8, 0xBF, .cpA)]

def words8 : List (Nat × Nat × Instr) :=
  [(8, 0xC0, .retNZ), (8, 0xC1, .popBC), (24, 0x3412C2, .jpNZ 0x3412), (24, 0x3412C3, .jp 0x3412),
   (24, 0x3412C4, .callNZ 0x3412), (8, 0xC5, .pushBC), (16, 0x9CC6, .addAImm 0x9C), (8, 0xC7, .rst00),
   (8, 0xC8, .retZ), (8, 0xC9, .ret), (24, 0x3412CA, .jpZ 0x3412), (24, 0x3412CC, .callZ 0x3412),
   (24, 0x3412CD, .call 0x3412), (16, 0x9CCE, .adcAImm 0x9C), (8, 0xCF, .rst08), (8, 0xD0, .retNC),
   (8, 0xD1, .popDE), (24, 0x3412D2, .jpNC 0x3412), (8, 0xD3, .undefD3), (24, 0x3412D4, .callNC 0x3412),
   (8, 0xD5, .pushDE), (16, 0x9CD6, .subImm 0x9C), (8, 0xD7, .rst10), (8, 0xD8, .retC)]

def words9 : List (Nat × Nat × Instr) :=
  [(8, 0xD9, .reti), (24, 0x3412DA, .jpC 0x3412), (8, 0xDB, .undefDB), (24, 0x3412DC, .callC 0x3412),
   (8, 0xDD, .undefDD), (16, 0x9CDE, .sbcAImm 0x9C), (8, 0xDF, .rst18), (16, 0x9CE0, .ldhIndA8A 0x9C),
   (8, 0xE1, .popHL), (8, 0xE2, .ldhIndCA), (8, 0xE3, .undefE3), (8, 0xE4, .undefE4), (8, 0xE5, .pushHL),
   (16, 0x9CE6, .andImm 0x9C), (8, 0xE7, .rst20), (16, 0x9CE8, .addSPImm 0x9C), (8, 0xE9, .jpHL),
   (24, 0x3412EA, .ldIndA16A 0x3412), (8, 0xEB, .undefEB), (8, 0xEC, .undefEC), (8, 0xED, .undefED),
   (16, 0x9CEE, .xorImm 0x9C), (8, 0xEF, .rst28), (16, 0x9CF0, .ldhAIndA8 0x9C)]

def words10 : List (Nat × Nat × Instr) :=
  [(8, 0xF1, .popAF), (8, 0xF2, .ldhAIndC), (8, 0xF3, .di), (8, 0xF4, .undefF4), (8, 0xF5, .pushAF),
   (16, 0x9CF6, .orImm 0x9C), (8, 0xF7, .rst30), (16, 0x9CF8, .ldHLSPImm 0x9C), (8, 0xF9, .ldSPHL),
   (24, 0x3412FA, .ldAIndA16 0x3412), (8, 0xFB, .ei), (8, 0xFC, .undefFC), (8, 0xFD, .undefFD),
   (16, 0x9CFE, .cpImm 0x9C), (8, 0xFF, .rst38), (16, 0x00CB, .rlc (.reg .b)), (16, 0x0BCB, .rrc (.reg .e)),
   (16, 0x16CB, .rl .indHL), (16, 0x19CB, .rr (.reg .c)), (16, 0x24CB, .sla (.reg .h)), (16, 0x2FCB, .sra (.reg .a)),
   (16, 0x32CB, .swap (.reg .d)), (16, 0x3DCB, .srl (.reg .l)), (16, 0x40CB, .bit0 (.reg .b))]

def words11 : List (Nat × Nat × Instr) :=
  [(16, 0x4BCB, .bit1 (.reg .e)), (16, 0x56CB, .bit2 .indHL), (16, 0x59CB, .bit3 (.reg .c)),
   (16, 0x64CB, .bit4 (.reg .h)), (16, 0x6FCB, .bit5 (.reg .a)), (16, 0x72CB, .bit6 (.reg .d)),
   (16, 0x7DCB, .bit7 (.reg .l)), (16, 0x80CB, .res0 (.reg .b)), (16, 0x8BCB, .res1 (.reg .e)),
   (16, 0x96CB, .res2 .indHL), (16, 0x99CB, .res3 (.reg .c)), (16, 0xA4CB, .res4 (.reg .h)),
   (16, 0xAFCB, .res5 (.reg .a)), (16, 0xB2CB, .res6 (.reg .d)), (16, 0xBDCB, .res7 (.reg .l)),
   (16, 0xC0CB, .set0 (.reg .b)), (16, 0xCBCB, .set1 (.reg .e)), (16, 0xD6CB, .set2 .indHL),
   (16, 0xD9CB, .set3 (.reg .c)), (16, 0xE4CB, .set4 (.reg .h)), (16, 0xEFCB, .set5 (.reg .a)),
   (16, 0xF2CB, .set6 (.reg .d)), (16, 0xFDCB, .set7 (.reg .l))]

/-- A word decodes to the instruction written beside it. -/
def reads (e : Nat × Nat × Instr) : Bool := decodeTableWord e.1 e.2.1 = some e.2.2

theorem test_decode_words0 : words0.all reads = true := by decide

theorem test_decode_words1 : words1.all reads = true := by decide

theorem test_decode_words2 : words2.all reads = true := by decide

theorem test_decode_words3 : words3.all reads = true := by decide

theorem test_decode_words4 : words4.all reads = true := by decide

theorem test_decode_words5 : words5.all reads = true := by decide

theorem test_decode_words6 : words6.all reads = true := by decide

theorem test_decode_words7 : words7.all reads = true := by decide

theorem test_decode_words8 : words8.all reads = true := by decide

theorem test_decode_words9 : words9.all reads = true := by decide

theorem test_decode_words10 : words10.all reads = true := by decide

theorem test_decode_words11 : words11.all reads = true := by decide

theorem test_decode_lone_prefix : decode [0xCB] = .ok .prefixCb [] := by decide

theorem test_decode_refuses_nothing : decode [] ≠ .ok .nop [] ∧ decode [0x3E] ≠ .ok (.ldAImm 0) [] := by decide

/-! ### Single steps -/

/-- The conventions of 95_test_vectors.md section 0: general registers 0, `SP` `0xDFF0`, the bytes at `0xC000`. -/
def base (bytes : List Byte) : State :=
  State.pokeAll bytes 0xC000 { State.reset with cpu := { State.reset.cpu with
    a := 0, f := 0, b := 0, c := 0, d := 0, e := 0, h := 0, l := 0, sp := 0xDFF0, pc := 0xC000 } }

/-- Whether one instruction, fetch included, answers a next state that passes the check. -/
def after (s : State) (p : State → Bool) : Bool :=
  match executeInstruction s with
  | .next t => p t
  | .fault _ => false
  | .refused _ => false

/-- The byte a bus read gives. -/
def peek (t : State) (a : Word) : Byte := (t.busRead a).1

theorem test_loads :
    [ after ((base [0x41]).setReg8 .c 0x5A) (fun t => t.cpu.b == 0x5A && t.cpu.pc == 0xC001 && t.cc == 4),
      after (((base [0x56]).setReg16 .hl 0xC100).poke 0xC100 0x77)
        (fun t => t.cpu.d == 0x77 && t.cpu.pc == 0xC001 && t.cc == 8),
      after (((base [0x73]).setReg16 .hl 0xC100).setReg8 .e 0x99)
        (fun t => peek t 0xC100 == 0x99 && t.cpu.pc == 0xC001 && t.cc == 8),
      after ((base [0x36, 0x42]).setReg16 .hl 0xC100)
        (fun t => peek t 0xC100 == 0x42 && t.cpu.pc == 0xC002 && t.cc == 12),
      after (((base [0x22]).setReg16 .hl 0xFFFF).setReg8 .a 0x1F)
        (fun t => t.reg16 .hl == 0x0000 && t.io.ie == 0x1F && t.cc == 8),
      after ((base [0xE0, 0x80]).setReg8 .a 0xAB) (fun t => peek t 0xFF80 == 0xAB && t.cpu.pc == 0xC002 && t.cc == 12),
      after (((base [0xF2]).setReg8 .c 0x91).poke 0xFF91 0x78) (fun t => t.cpu.a == 0x78 && t.cc == 8),
      after ((base [0xFA, 0x35, 0xE2]).poke 0xC235 0x9B) (fun t => t.cpu.a == 0x9B && t.cc == 16)
    ].all id = true := by decide

theorem test_ports :
    [ after (base [0xF0, 0x07]) (fun t => t.cpu.a == 0xF8 && t.cc == 12),
      after ((base [0xF0, 0x0F]).setIf 0x01) (fun t => t.cpu.a == 0xE1 && t.cc == 12)
    ].all id = true := by decide

theorem test_pairs_and_stack :
    [ after (base [0x01, 0x34, 0x12]) (fun t => t.reg16 .bc == 0x1234 && t.cpu.pc == 0xC003 && t.cc == 12),
      after ((base [0x08, 0x00, 0xC3]).setReg16 .sp 0xBEEF)
        (fun t => peek t 0xC300 == 0xEF && peek t 0xC301 == 0xBE && t.cpu.pc == 0xC003 && t.cc == 20),
      after (((base [0xC5]).setReg16 .bc 0x1234).setReg16 .sp 0xD000)
        (fun t => t.cpu.sp == 0xCFFE && peek t 0xCFFF == 0x12 && peek t 0xCFFE == 0x34 && t.cc == 16),
      after ((((base [0xF1]).setReg16 .sp 0xCFFE).poke 0xCFFE 0xFF).poke 0xCFFF 0x12)
        (fun t => t.cpu.a == 0x12 && t.cpu.f == 0xF0 && t.cpu.sp == 0xD000 && t.cc == 12),
      after ((((base [0xE5]).setReg16 .hl 0xAABB).setReg16 .sp 0x0001).setIe 0x00)
        (fun t => t.cpu.sp == 0xFFFF && t.io.ie == 0xBB && t.cc == 16),
      after ((base [0xF8, 0xFF]).setReg16 .sp 0x0001) (fun t => t.reg16 .hl == 0x0000 && t.cpu.f == 0x30 && t.cc == 12)
    ].all id = true := by decide

theorem test_add_and_sub :
    [ after (((base [0x80]).setReg8 .a 0x3A).setReg8 .b 0xC6)
        (fun t => t.cpu.a == 0x00 && t.cpu.f == 0xB0 && t.cc == 4),
      after ((((base [0x89]).setReg8 .a 0xE1).setReg8 .c 0x0F).setF 0x10) (fun t => t.cpu.a == 0xF1 && t.cpu.f == 0x20),
      after ((base [0xD6, 0x0F]).setReg8 .a 0x3E) (fun t => t.cpu.a == 0x2F && t.cpu.f == 0x60 && t.cc == 8),
      after (((base [0xDE, 0xFF]).setReg8 .a 0x00).setF 0x10) (fun t => t.cpu.a == 0x00 && t.cpu.f == 0xF0),
      after ((base [0xFE, 0x40]).setReg8 .a 0x3C) (fun t => t.cpu.a == 0x3C && t.cpu.f == 0x50 && t.cc == 8)
    ].all id = true := by decide

theorem test_logic_and_flags :
    [ after ((((base [0xA5]).setReg8 .a 0x5A).setReg8 .l 0x3F).setF 0x50) (fun t => t.cpu.a == 0x1A && t.cpu.f == 0x20),
      after (((base [0xAF]).setReg8 .a 0x5A).setF 0xF0) (fun t => t.cpu.a == 0x00 && t.cpu.f == 0x80),
      after ((((base [0xB6]).setReg8 .a 0x5A).setReg16 .hl 0xC100).poke 0xC100 0x0F)
        (fun t => t.cpu.a == 0x5F && t.cpu.f == 0x00 && t.cc == 8),
      after (((base [0x2F]).setReg8 .a 0x35).setF 0x90) (fun t => t.cpu.a == 0xCA && t.cpu.f == 0xF0),
      after ((base [0x37]).setF 0xE0) (fun t => t.cpu.f == 0x90),
      after ((base [0x3F]).setF 0xF0) (fun t => t.cpu.f == 0x80)
    ].all id = true := by decide

theorem test_inc_and_dec :
    [ after (((base [0x04]).setReg8 .b 0xFF).setF 0x10) (fun t => t.cpu.b == 0x00 && t.cpu.f == 0xB0),
      after (((base [0x15]).setReg8 .d 0x01).setF 0x10) (fun t => t.cpu.d == 0x00 && t.cpu.f == 0xD0),
      after (((base [0x34]).setReg16 .hl 0xC100).poke 0xC100 0x4F)
        (fun t => peek t 0xC100 == 0x50 && t.cpu.f == 0x20 && t.cc == 12),
      after (((base [0x35]).setReg16 .hl 0xC100).poke 0xC100 0x01)
        (fun t => peek t 0xC100 == 0x00 && t.cpu.f == 0xC0 && t.cc == 12)
    ].all id = true := by decide

theorem test_daa :
    [ after (((base [0x27]).setReg8 .a 0x7D).setF 0x00) (fun t => t.cpu.a == 0x83 && t.cpu.f == 0x00),
      after (((base [0x27]).setReg8 .a 0x0D).setF 0x60) (fun t => t.cpu.a == 0x07 && t.cpu.f == 0x40)
    ].all id = true := by decide

theorem test_alu16 :
    [ after ((((base [0x09]).setReg16 .hl 0x8A23).setReg16 .bc 0x0605).setF 0x80)
        (fun t => t.reg16 .hl == 0x9028 && t.cpu.f == 0xA0 && t.cc == 8),
      after (((base [0x13]).setReg16 .de 0xFFFF).setF 0xF0)
        (fun t => t.reg16 .de == 0x0000 && t.cpu.f == 0xF0 && t.cc == 8),
      after (((base [0x0B]).setReg16 .bc 0x0000).setF 0x00)
        (fun t => t.reg16 .bc == 0xFFFF && t.cpu.f == 0x00 && t.cc == 8),
      after (((base [0xE8, 0x02]).setReg16 .sp 0xFFF8).setF 0xF0)
        (fun t => t.cpu.sp == 0xFFFA && t.cpu.f == 0x00 && t.cpu.pc == 0xC002 && t.cc == 16)
    ].all id = true := by decide

theorem test_rotates :
    [ after (((base [0x07]).setReg8 .a 0x85).setF 0xF0) (fun t => t.cpu.a == 0x0B && t.cpu.f == 0x10 && t.cc == 4),
      after ((base [0x0F]).setReg8 .a 0x3B) (fun t => t.cpu.a == 0x9D && t.cpu.f == 0x10),
      after (((base [0x17]).setReg8 .a 0x95).setF 0x10) (fun t => t.cpu.a == 0x2B && t.cpu.f == 0x10),
      after (((base [0x1F]).setReg8 .a 0x81).setF 0x00) (fun t => t.cpu.a == 0x40 && t.cpu.f == 0x10),
      after ((base [0xCB, 0x15]).setReg8 .l 0x80) (fun t => t.cpu.l == 0x00 && t.cpu.f == 0x90),
      after ((((base [0xCB, 0x1E]).setReg16 .hl 0xC100).poke 0xC100 0x8A).setF 0x10)
        (fun t => peek t 0xC100 == 0xC5 && t.cpu.f == 0x00 && t.cc == 16),
      after ((base [0xCB, 0x22]).setReg8 .d 0x80) (fun t => t.cpu.d == 0x00 && t.cpu.f == 0x90),
      after ((base [0xCB, 0x2F]).setReg8 .a 0x8A) (fun t => t.cpu.a == 0xC5 && t.cpu.f == 0x00),
      after (((base [0xCB, 0x37]).setReg8 .a 0xF1).setF 0xF0) (fun t => t.cpu.a == 0x1F && t.cpu.f == 0x00),
      after (((base [0xCB, 0x3E]).setReg16 .hl 0xC100).poke 0xC100 0xFF)
        (fun t => peek t 0xC100 == 0x7F && t.cpu.f == 0x10),
      after ((((base [0xCB, 0x06]).setReg16 .hl 0xC100).poke 0xC100 0x00).setF 0x10)
        (fun t => peek t 0xC100 == 0x00 && t.cpu.f == 0x80 && t.cc == 16),
      after ((base [0xCB, 0x09]).setReg8 .c 0x01) (fun t => t.cpu.c == 0x80 && t.cpu.f == 0x10)
    ].all id = true := by decide

theorem test_bits :
    [ after (((base [0xCB, 0x65]).setReg8 .l 0xEF).setF 0x00) (fun t => t.cpu.l == 0xEF && t.cpu.f == 0xA0),
      after ((((base [0xCB, 0x46]).setReg16 .hl 0xC100).poke 0xC100 0xFE).setF 0x10)
        (fun t => peek t 0xC100 == 0xFE && t.cpu.f == 0xB0 && t.cc == 12),
      after (((base [0xCB, 0x9E]).setReg16 .hl 0xC100).poke 0xC100 0xFF) (fun t => peek t 0xC100 == 0xF7 && t.cc == 16),
      after ((base [0xCB, 0xDF]).setReg8 .a 0x80) (fun t => t.cpu.a == 0x88 && t.cpu.f == 0x00)
    ].all id = true := by decide

theorem test_jumps :
    [ after ((base [0xDA, 0x34, 0x12]).setF 0x10) (fun t => t.cpu.pc == 0x1234 && t.cc == 16),
      after ((base [0xC2, 0x00, 0x80]).setF 0x80) (fun t => t.cpu.pc == 0xC003 && t.cc == 12),
      after ((base [0xE9]).setReg16 .hl 0x8000) (fun t => t.cpu.pc == 0x8000 && t.cc == 4),
      after (base [0x18, 0x80]) (fun t => t.cpu.pc == 0xBF82 && t.cc == 12),
      after ((base [0x28, 0x05]).setF 0x00) (fun t => t.cpu.pc == 0xC002 && t.cc == 8),
      after ((base [0x30, 0xFB]).setF 0x00) (fun t => t.cpu.pc == 0xBFFD && t.cc == 12)
    ].all id = true := by decide

theorem test_calls_and_returns :
    [ after ((base [0xCD, 0x34, 0x12]).setReg16 .sp 0xD000)
        (fun t => t.cpu.sp == 0xCFFE && peek t 0xCFFF == 0xC0 && peek t 0xCFFE == 0x03 && t.cpu.pc == 0x1234 &&
          t.cc == 24),
      after (((base [0xCC, 0x34, 0x12]).setReg16 .sp 0xD000).setF 0x00)
        (fun t => t.cpu.sp == 0xD000 && t.cpu.pc == 0xC003 && t.cc == 12),
      after (((((base [0xC8]).setF 0x80).setReg16 .sp 0xCFFE).poke 0xCFFE 0x03).poke 0xCFFF 0x80)
        (fun t => t.cpu.sp == 0xD000 && t.cpu.pc == 0x8003 && t.cc == 20),
      after ((((((base [0xD9]).setReg16 .sp 0xCFFE).poke 0xCFFE 0x03).poke 0xCFFF 0x80).setIme false).intRecompute)
        (fun t => t.cpu.sp == 0xD000 && t.cpu.pc == 0x8003 && t.cpu.ime == true && t.cpu.minIntTime == 16 &&
          t.cc == 16),
      after ((base [0xEF]).setReg16 .sp 0xD000)
        (fun t => t.cpu.sp == 0xCFFE && peek t 0xCFFF == 0xC0 && peek t 0xCFFE == 0x01 && t.cpu.pc == 0x0028 &&
          t.cc == 16)
    ].all id = true := by decide

theorem test_system :
    [ after (((((base [0xF3]).setIme true).intRecompute).setIf 0x01).setIe 0x01)
        (fun t => t.cpu.ime == false && t.sched.interrupts == none && t.cc == 4),
      after (((((base [0xFB]).setIme false).intRecompute).setIf 0x01).setIe 0x01)
        (fun t => t.cpu.ime == true && t.cpu.minIntTime == 5 && t.sched.interrupts == some 5 && t.cc == 4),
      after (((((base [0x76, 0x3C]).setIme true).intRecompute).setIf 0x00).setIe 0x04)
        (fun t => t.cpu.halted == true && t.cpu.prefetched == true && t.cpu.latch == 0x3C && t.cpu.pc == 0xC002 &&
          t.cc == 4 && t.sched.interrupts == none),
      after (((((base [0x76, 0x3C]).setIme false).intRecompute).setIf 0x01).setIe 0x01)
        (fun t => t.cpu.halted == false && t.cpu.prefetched == true && t.cpu.latch == 0x3C && t.cpu.pc == 0xC001 &&
          t.cc == 4),
      after (((((base [0x76]).setIme true).intRecompute).setIf 0x01).setIe 0x01)
        (fun t => t.cpu.halted == false && t.cpu.prefetched == false && t.cpu.pc == 0xC000 && t.cc == 4),
      after (base [0x10, 0x00])
        (fun t => t.cpu.halted == true && t.cpu.stopped == true && t.cpu.stopStart == 4 && t.timer.divBase == 4 &&
          t.cpu.pc == 0xC002 && t.cc == 4 && t.sched.unhalt == none),
      after ((base [0xDD]).setIe 0x1F)
        (fun t => t.io.ie == 0x00 && t.cpu.halted == true && t.cpu.pc == 0xC001 && t.cc == 4)
    ].all id = true := by decide

/-! ### Witnesses -/

/-- The state a step answers, for a witness. -/
def answer (o : Host.Outcome State Fault Refusal) : State :=
  match o with
  | .next t => t
  | .fault _ => State.reset
  | .refused _ => State.reset

def cgbReset : State :=
  State.atReset { Params.suggested with model := .cgb, reset := ResetRecord.suggested .cgb 0x0000 }
    (some Cart.plain32K) Mems.empty RtcContents.zero 0 External.none

/-- A run is on, with 100 cycles to go. -/
def running (s : State) : State := s.setSlot .endRun (some 100)

/-- Reset with another cartridge. -/
def withCart (c : Cart) : State := { State.reset with cart := some c }

def mbc3Cart : Cart :=
  { Cart.plain32K with variant := .mbc3, romBanks := 8, ramBanks := 4, ramBytes := 0x8000, hasRtc := true }

def ramCart : Cart := { Cart.plain32K with variant := .mbc5, romBanks := 8, ramBanks := 4, ramBytes := 0x8000 }

/-- An enabled interrupt pending: `IF` bits 0 and 2, both enabled. -/
def pendingState (ime halted : Bool) : State :=
  ({ State.reset with
    cpu := { State.reset.cpu with ime := ime, halted := halted }
    io := { State.reset.io with ifr := 0x05, ie := 0x05 } }).intRecompute

theorem witness_DecodeOfEncode : wellFormed (.set7 .indHL) = true ∧ wellFormed (.ldSPImm 0xFFFF) = true := by decide

theorem witness_EncodeOfDecode :
    decode [0x3E, 0x9C, 0x00] = .ok (.ldAImm 0x9C) [0x00] ∧ wellFormed (.ldAImm 0x9C) = true ∧
    Instr.ldAImm 0x9C ≠ .stop ∧
    decode [0x10, 0x55, 0x00] = .ok .stop [0x00] ∧ wellFormed .stop = true := by decide

theorem witness_FirstByte :
    0xFA#8 ∈ threeByteOpcodes ∧ 0xCB#8 ∈ twoByteOpcodes ∧ 0xFF#8 ∉ threeByteOpcodes ∧
    0xFF#8 ∉ twoByteOpcodes := by decide

theorem witness_StepRuns :
    let s := State.reset.withFetchWord 16 0x9C3E
    s.sched.endRun.isSome = true ∧ s.cannotRun = none ∧ s.cpu.halted = false ∧ reached s.runMin s.cc = false ∧
    decode s.fetchInstr.1 = .ok (.ldAImm 0x9C) [] := by decide

/-- Between runs, with these calls waiting. -/
def waiting (calls : List HostCall) (stopped : Bool) : State :=
  { State.reset with
    cpu := { State.reset.cpu with halted := stopped, stopped := stopped }
    ext := { External.none with calls := calls, polls := [0x08] } }

/-- Each clause: idle, a call, a run begun while running and while stopped, and an instance that cannot run. -/
theorem witness_StepAnswers :
    State.reset.sched.endRun = none ∧ State.reset.ext.calls = [] ∧
    (waiting [.setBaseTime 7] false).ext.calls = [.setBaseTime 7] ∧ (∀ k, HostCall.setBaseTime 7 ≠ .runFor k) ∧
    (waiting [.runFor 24] false).ext.calls = [.runFor 24] ∧ (waiting [.runFor 24] false).cannotRun = none ∧
    (waiting [.runFor 24] false).cpu.stopped = false ∧ (waiting [.runFor 24] true).cpu.stopped = true ∧
    (waiting [.runFor 24] true).poll.1 ≠ 0 ∧ (waiting [] true).poll.1 ≠ 0 ∧ State.reset.poll.1 = 0 ∧
    ({ State.reset with cart := none }).cannotRun = some .unloaded :=
  ⟨by decide, by decide, by decide, by simp, by decide, by decide, by decide, by decide, by decide, by decide, by decide,
    by decide⟩

/-- 60_exceptions.md R341: `RunFor(24)` sets END 24 cycles ahead, and the next step runs an instruction. -/
theorem test_runFor :
    (answer (step (waiting [.runFor 24] false))).sched.endRun = some 24 ∧
    (answer (step (answer (step (waiting [.runFor 24] false))))).cpu.pc = 0x0101 := by decide

/-- 70_reset_and_hazards.md R550 (3): the reset state is as `TimaReschedule()` and `IntRecompute()` leave it. -/
theorem test_reset_is_rescheduled : State.reset.timaReschedule.intRecompute = State.reset := by decide

theorem witness_EveryInstructionCompletes : wellFormed (.callNZ 0xC000) = true ∧ wellFormed .ei = true := by decide

theorem witness_Primitives :
    ({ State.reset with cpu := { State.reset.cpu with prefetched := true } }).cpu.prefetched = true ∧
    State.reset.cpu.prefetched = false := by decide

theorem witness_RegisterFile : Reg16.sp ≠ .af ∧ Reg16.bc ≠ .af := by decide

theorem witness_Stores :
    State.reset.reachesWriter (Store8.fromA (.abs 0xFF50) |>.address State.reset) = false ∧
    State.reset.reachesWriter (Store8.fromA (.abs 0xFF56) |>.address State.reset) = false ∧
    (State.reset.memRead (State.reset.reg16 .hl)).2.reachesWriter (State.reset.reg16 .hl) = false ∧
    Store8.imm 0 ≠ .inc ∧ Store8.imm 0 ≠ .dec := by decide

theorem witness_DecimalAdjustCorrects :
    bcd 0x99 = some 99 ∧ bcd 0x00 = some 0 ∧ State.reset.cpu.a = 0x01 ∧ bcd 0x01 = some 1 := by decide

theorem witness_Rotates :
    rotA .rlc = some .rlca ∧ rotA .rrc = some .rrca ∧ rotA .rl = some .rla ∧ rotA .rr = some .rra := by decide

/-- For the conditional jumps, calls and returns: each condition true and false. -/
theorem witness_Conditions :
    condTrue .nz 0x00 = true ∧ condTrue .nz 0x80 = false ∧ condTrue .z 0x80 = true ∧ condTrue .z 0x70 = false ∧
    condTrue .nc 0xE0 = true ∧ condTrue .nc 0x10 = false ∧ condTrue .c 0x10 = true ∧ condTrue .c 0xE0 = false := by
  decide

theorem witness_ReturnAfterCall :
    State.reset.dma.last = none ∧
    [0xC002#16, 0xFE00].all (fun w => 0xC002 ≤ (State.reset.setSp w).cpu.sp.toNat &&
      (State.reset.setSp w).cpu.sp.toNat ≤ 0xFE00) = true ∧
    [0xFF82#16, 0xFFFF].all (fun w => 0xFF82 ≤ (State.reset.setSp w).cpu.sp.toNat &&
      (State.reset.setSp w).cpu.sp.toNat ≤ 0xFFFF) = true := by decide

/-- The call and the return at the lowest and the highest stacks of both ranges. -/
theorem test_return_after_call :
    [0xC002#16, 0xFE00, 0xFF82, 0xFFFF].all (fun w =>
      let s := (base []).setSp w
      let u := answer (exec .ret (answer (exec (.call 0x1234) s)))
      u.cpu = s.cpu) = true := by decide

theorem witness_Halt :
    ((pendingState false false).timerCatchUp 0).pending ≠ 0 ∧ (pendingState false false).cpu.ime = false ∧
    ((pendingState true false).timerCatchUp 0).pending ≠ 0 ∧ (pendingState true false).cpu.ime = true ∧
    (State.reset.timerCatchUp 0).pending = 0 := by decide

theorem witness_Stop :
    ({ cgbReset with io := { cgbReset.io with prepare := true } }).cgb = true ∧ State.reset.cgb = false ∧
    cgbReset.cgb = true ∧ cgbReset.io.prepare = false := by decide

theorem witness_Undefined : 0xD3#8 ∈ [0xD3#8, 0xDB, 0xDD, 0xE3, 0xE4, 0xEB, 0xEC, 0xED, 0xF4, 0xFC, 0xFD] := by decide

def lockedState : State := answer (exec .undefDD (running State.reset))

theorem lockedState_inv : lockedState.Inv where
  memories := by decide
  flags := by decide
  stopHalted := by decide
  dmgSpeed := by decide
  dmaIdle := by decide
  dmaDeadline := by decide
  timaSlot := by decide
  interruptSlot := by decide
  cartridge := by
    intro c h
    have hc : c = Cart.plain32K := by
      have : some c = some Cart.plain32K := h.symm
      exact Option.some.inj this
    subst hc
    decide
  resetRecord := by decide
  divisor := by decide

theorem witness_LockedUp :
    lockedState.Inv ∧ lockedUp lockedState ∧ (∀ r q, lockedState.nextCall ≠ some (.reset r, q)) ∧
    (∀ r q, lockedState.nextCall ≠ some (.load r, q)) ∧
    step lockedState = .next { lockedState with cc := 100 } :=
  ⟨lockedState_inv, ⟨by decide, by decide, by decide, by decide⟩, (fun _ _ h => nomatch h),
    (fun _ _ h => nomatch h), by rfl⟩

theorem witness_InterruptSlot :
    ((pendingState true false).cpu.stopped = false ∧
      (∃ b, b < 5 ∧ (pendingState true false).io.ifr.getLsbD b = true ∧
        (pendingState true false).io.ie.getLsbD b = true) ∧
      ((pendingState true false).cpu.ime = true ∨ (pendingState true false).cpu.halted = true)) ∧
    ¬(State.reset.cpu.ime = true ∨ State.reset.cpu.halted = true) :=
  ⟨⟨by decide, ⟨2, by decide⟩, by decide⟩, by decide⟩

/-- The pending set sampled by a dispatch, as 60_exceptions.md R350 gives it. -/
def sampled (s : State) : BitVec 5 :=
  let ret := if s.cpu.prefetched then s.cpu.pc - 1 else s.cpu.pc
  let hi0 := ({ s with cc := s.cc + 8, cpu := { s.cpu with
    prefetched := false, pc := ret, ime := false, sp := s.cpu.sp - 1 } }).memWrite (s.cpu.sp - 1) (hiByte ret)
  (hi0.timerCatchUp hi0.cc).pending

theorem witness_Dispatch :
    (sampled (pendingState true false)).getLsbD 0 = true ∧
    (sampled { pendingState true false with io := { State.reset.io with ifr := 0x10, ie := 0x10 } }) = 0x10 ∧
    sampled ((pendingState true false).setSp 0x0000) = 0x01 ∧
    sampled { (pendingState true false).setSp 0x0000 with io := { State.reset.io with ifr := 0x04, ie := 0x04 } } = 0 := by
  decide

theorem witness_StepTakesADueInterrupt :
    let s := running (pendingState true true)
    s.sched.endRun.isSome = true ∧ s.cannotRun = none ∧ s.cpu.stopped = false ∧ s.cpu.ime = true ∧
    s.sched.interrupts = some 0 ∧ (0 : Int) ≤ s.cc ∧
    [Slot.unhalt, .blit, .serial, .oamDma, .hdma, .tima, .video].all
      (fun sl => !reached (s.sched.time sl) s.cc) = true := by decide

theorem witness_HaltedCpu :
    let s := { lockedState with sched := { lockedState.sched with video := some 6 } }
    s.sched.endRun.isSome = true ∧ s.cannotRun = none ∧ s.cpu.halted = true ∧ s.runMin = some 6 ∧ s.cc < 6 := by decide

theorem witness_Unhalt :
    (answer (exec .stop State.reset)).cpu.stopped = true ∧ lockedState.cpu.stopped = false := by decide

/-- Two slots due at once, and one due slot while stopped. -/
theorem witness_NextSlot :
    let s := { State.reset with sched := { State.reset.sched with tima := some 0, video := some 0 } }
    let p := { State.reset with
      cpu := { State.reset.cpu with halted := true, stopped := true }
      sched := { State.reset.sched with unhalt := some 0, video := some 0 } }
    s.sched.time .tima = some 0 ∧ s.sched.time .video = some 0 ∧ (0 : Int) ≤ s.cc ∧ s.cpu.stopped = false ∧
    s.nextSlot = .tima ∧ p.cpu.stopped = true ∧ p.sched.time .unhalt = some 0 ∧ p.nextSlot = .unhalt ∧
    State.reset.nextSlot = .endRun := by decide

theorem witness_EveryStepKeeps : lockedState.Inv ∧ step lockedState = .next { lockedState with cc := 100 } :=
  ⟨lockedState_inv, by rfl⟩

/-- A handler that sets its own slot and requests the VBlank interrupt. -/
def answering (sets : List (ExtSlot × Option Int)) : State :=
  { State.reset with ext := { External.none with answers := [{ value := 0x5A, irq := 0x01, sets := sets, vram := [] }] } }

/-- An external slot fired with no device, with one that leaves it later, too early, and alone. -/
theorem witness_SlotsFire :
    State.reset.ext.answers = [] ∧ (State.reset.fire .video).sched.video = none ∧
    ((answering [(.video, some 1)]).fire .video).sched.video = some 1 ∧
    ((answering [(.video, some 0)]).fire .video).sched.video = none ∧
    (answering []).ext.answers = [{ value := 0x5A, irq := 0x01, sets := [], vram := [] }] ∧
    (running { State.reset with cc := 100 }).cannotRun = none ∧
    (running { State.reset with cc := 100 }).sched.endRun.isSome = true ∧
    reached (running { State.reset with cc := 100 }).runMin 100 = true := by decide

theorem witness_ResetLeaves :
    State.reset.ext.answers = [] ∧ (answering []).ext.answers ≠ [] := by decide

/-- A reset request with and without a sidecar file: the registers it holds, or those of `RESET`. -/
theorem test_hostReset_rtc :
    let w : RtcContents := { RtcContents.zero with live := { RtcRegs.zero with s := 59, day8 := true }, sub := 9000000 }
    (State.reset.hostReset (some w)).rtc.live.read 4 = 0x01 ∧ (State.reset.hostReset (some w)).rtc.sub = 611392 ∧
    (State.reset.hostReset none).rtc.live = RtcRegs.zero := by decide

/-- A transfer from work RAM in its copy phase, at position 23 (64_oamdma.md R536). -/
def copying : State := { State.reset with
  cc := 100
  io := { State.reset.io with dma := 0xC1 }
  dma := { src := .wram, pos := 23, startPos := 0, last := some 100 }
  sched := { State.reset.sched with oamDma := some 104 } }

/-- The conflict of both bus statements, below and at the edge of the area, and none in HRAM and in OAM. -/
theorem witness_BusConflict :
    let c := copying.dmaCatchUp copying.cc
    copying.dma.last ≠ none ∧ c.dma.pos.toNat < 0xA0 ∧
    [0x0000, 0x7FFF, 0xA000, 0xFDFF].all (fun n => inConflictArea copying.cgb c.dma.src n) = true ∧
    [0x8000, 0x9FFF, 0xFE00, 0xFF7F].all (fun n => !inConflictArea copying.cgb c.dma.src n) = true := by decide

/-- The clauses of both bus statements at the ends of their ranges, the engine idle. -/
theorem witness_BusClauses :
    [0x0000#16, 0x3FFF].all (fun a => a.toNat < 0x4000) = true ∧
    [0x4000#16, 0x7FFF].all (fun a => 0x4000 ≤ a.toNat && a.toNat < 0x8000) = true ∧
    [0x8000#16, 0x9FFF].all (fun a => 0x8000 ≤ a.toNat && a.toNat < 0xA000) = true ∧
    [0xA000#16, 0xBFFF].all (fun a => 0xA000 ≤ a.toNat && a.toNat < 0xC000) = true ∧
    [0xC000#16, 0xDFFF].all (fun a => 0xC000 ≤ a.toNat && a.toNat < 0xE000) = true ∧
    [0xE000#16, 0xFDFF].all (fun a => 0xE000 ≤ a.toNat && a.toNat < 0xFE00) = true ∧
    [0xFE00#16, 0xFE9F].all (fun a => 0xFE00 ≤ a.toNat && a.toNat < 0xFEA0) = true ∧
    [0xFEA0#16, 0xFEFF].all (fun a => 0xFEA0 ≤ a.toNat && a.toNat < 0xFF00) = true ∧
    [0xFF00#16, 0xFF7F].all (fun a => 0xFF00 ≤ a.toNat && a.toNat < 0xFF80) = true ∧
    [0xFF80#16, 0xFFFE].all (fun a => 0xFF80 ≤ a.toNat && a.toNat < 0xFFFF) = true ∧ (0xFFFF#16).toNat = 0xFFFF ∧
    State.reset.dma.last = none ∧ State.reset.askOam.1 = true ∧ 0xA0 ≤ State.reset.dma.pos.toNat ∧
    ¬0xA0 ≤ copying.dma.pos.toNat ∧ State.reset.askVram.1 = true ∧
    ({ State.reset with ext := { State.reset.ext with vramOk := [false] } }).askVram.1 = false ∧
    State.reset.cgb = false ∧ cgbReset.cgb = true := by decide

theorem witness_BusAccesses :
    [0x0000#16, 0xA000, 0xC000, 0xFF50, 0xFF56, 0xFFFF].all (fun a => !State.reset.reachesWriter a) = true ∧
    State.reset.dma.last = none ∧ State.reset.mem.wf = true := by decide

/-- An image of `size` bytes with these header bytes. -/
def imageOf (size : Nat) (type rom ram : Byte) : RomFile :=
  { size := size, bytes := [(0x0147, type), (0x0148, rom), (0x0149, ram)] }

def request (f : Option RomFile) : LoadRequest :=
  { file := f, battery := [], sidecar := none, multicart := true, wisdomTree := true, zeroAdjust := false, handler := false }

/-- How a load ends: the failure, or the variant with its banks and RAM bytes. -/
def loadResult (f : Option RomFile) : Option LoadFailure × Option (Variant × Nat × Nat) :=
  match loadCart (request f) with
  | .error e => (some e, none)
  | .ok c => (none, some (c.variant, c.romBanks, c.ramBytes))

/-- Each outcome of a load, at the edges: the header's last byte missing, the largest size codes and the next, an image a
byte short, a type 62_mbc.md R432 does not list, the Wisdom Tree heuristic. -/
theorem witness_Loads :
    [none, some (imageOf 0x014F 0x00 0 0),
      some (imageOf 0x0150 0x04 0 0),
      some (imageOf 0x7FFF 0x01 0 0),
      some (imageOf 0x8000 0x01 0 0),
      some (imageOf 0x800000 0x1B 8 5),
      some (imageOf 0x1000000 0x1B 9 5),
      some (imageOf 0x8000 0x1B 0 6),
      some (imageOf 0x8000 0x19 0 6),
      some (imageOf 0x10000 0x00 1 0)].map loadResult =
    [(some .ioFailure, none),
      (some .invalidHeader, none),
      (some .unsupportedMapper, none),
      (some .invalidHeader, none),
      (none, some (.mbc1, 2, 0)),
      (none, some (.mbc5, 512, 0x10000)),
      (some .invalidHeader, none),
      (some .invalidHeader, none),
      (none, some (.mbc5, 2, 0)),
      (none, some (.wisdomTree, 4, 0))] := by decide

theorem witness_NoStepChangesRom :
    (∀ r u, lockedState.nextCall ≠ some (.load r, u)) ∧ step lockedState = .next { lockedState with cc := 100 } :=
  ⟨(fun _ _ h => nomatch h), by rfl⟩

theorem witness_Ports :
    State.reset.cgb = false ∧ cgbReset.cgb = true ∧
    0xFF40#16 ∉ [0xFF00#16, 0xFF04, 0xFF05, 0xFF06, 0xFF07, 0xFF0F, 0xFF46, 0xFF4D, 0xFF4F, 0xFF70] := by decide

/-- A handler with one answer that writes VRAM: at the ends of the HDMA ports and just outside them, and with no device. -/
theorem witness_HandlerAccess :
    let s := { State.reset with ext := { External.none with answers :=
      [{ value := 0x5A, irq := 0x01, sets := [(.hdma, some 9)], vram := [(3, 0x77), (3, 0x78)] }] } }
    s.ext.answers ≠ [] ∧ State.reset.ext.answers = [] ∧ (State.reset.extIoRead 0xFF01).1 = 0xFF ∧
    (s.extIoRead 0xFF01).1 = 0x5A ∧ (s.extIoRead 0xFF01).2.io.ifr = 0x01 ∧ (s.extIoRead 0xFF01).2.sched.hdma = some 9 ∧
    [0xFF50#16, 0xFF51, 0xFF55, 0xFF56].map (fun a => (s.extIoWrite a 0).byte .vram 3) = [0x00, 0x78, 0x78, 0x00] := by
  decide

theorem witness_TimerCatchUp : (32 : Int) ≤ 32 ∧ (32 : Int) ≤ 48 := by decide

/-- Scenario 3 of 95_test_vectors.md: `divBase = 0`, `tac = 5`, `tima = 0xFE`, `tma = 0x80`. -/
def scenario3 : State := { State.reset with
  timer := { divBase := 0, tima := 0xFE, tma := 0x80, tac := 5, timaLast := 0 } }

/-- Before, at and past the deadline 32. -/
theorem witness_Tima :
    scenario3.cpu.stopped = false ∧ scenario3.timer.tac.getLsbD 2 = true ∧ scenario3.timer.timaLast < 31 ∧
    scenario3.timaDeadline = some 32 := by decide

theorem test_scenario3 :
    (scenario3.timerCatchUp 31).timer.tima = 0xFF ∧ (scenario3.timerCatchUp 32).timer.tima = 0x80 ∧
    (scenario3.timerCatchUp 32).io.ifr = 0x05 ∧ (scenario3.timerCatchUp 32).sched.tima = some 2080 := by
  decide

theorem witness_OamDma :
    State.reset.dma = OamDma.idle ∧ State.reset.cpu.stopped = false ∧ State.reset.window ≠ .special ∧
    0 < 160 ∧ 159 < 160 := by decide

/-- The engine reading from `src`, page `page`. -/
def reading (src : DmaSrc) (page : Byte) (s : State) : State :=
  { s with io := { s.io with dma := page }, dma := { s.dma with src := src } }

/-- Every source, with every window a cartridge can show it, and the ends of its pages. -/
theorem witness_DmaSources :
    let on (v : Variant) : State := { withCart { mbc3Cart with variant := v } with
      mapper := { State.reset.mapper with ramEnable := true, ramBankReg := 8 } }
    [DmaSrc.rom, .vram, .wram, .invalid, .sram].all (fun x => (reading x 0xC0 State.reset).dma.src = x) = true ∧
    State.reset.window = .closed ∧ (on .mbc1).window = .ram true ∧ (on .mbc2).window = .halfBytes ∧
    (on .mbc3).window = .rtc 0 ∧
    ((reading .rom 0x00 (State.reset.poke 0x0000 0x12)).dmaSourceByte 0x00).1 = 0x12 ∧
    ((reading .rom 0x7F (State.reset.poke 0x7FFF 0x34)).dmaSourceByte 0xFF).1 = 0x34 ∧
    ((reading .vram 0x9F (State.reset.poke 0x9FFF 0x56)).dmaSourceByte 0xFF).1 = 0x56 ∧
    ((reading .wram 0xE0 (State.reset.poke 0xC000 0x78)).dmaSourceByte 0x00).1 = 0x78 ∧
    ((reading .wram 0xFF (State.reset.poke 0xDFFF 0x9A)).dmaSourceByte 0xFF).1 = 0x9A := by decide

/-- 64_oamdma.md R536: 25 steps after the write, the position is 23. -/
theorem test_oamDma_position : ((State.reset.ioWrite 0xFF46 0xC1).dmaCatchUp 100).dma.pos = 23 := by decide

theorem witness_ConflictAreas : 0xFE00 ≤ 0xFE00 ∧ 0xFE00 ≤ 0xFFFF := by decide

/-- A special cartridge in that mode, with RAM, whose handler has one answer. -/
def withSpecial (v : Variant) (mode : Byte) : State :=
  { withCart { ramCart with variant := v, handler := true } with
    mapper := { State.reset.mapper with modeReg := mode }
    ext := { External.none with
      special := [{ value := 0xA5, sram := [(0, 0x11)], bank0 := some 3, bankN := some 9, layoutB := none }] } }

/-- Each family, and the edges of every range of the write decoder. -/
theorem witness_Mapper :
    (withCart ramCart).cartridge.variant = .mbc5 ∧ (withCart mbc3Cart).cartridge.variant = .mbc3 ∧
    State.reset.cartridge.variant = .plain ∧ (withCart { ramCart with variant := .mbc1 }).cartridge.variant = .mbc1 ∧
    [Variant.mbc2, .huc1, .huc3, .camera, .mmm01, .wisdomTree].all
      (fun v => (withCart { ramCart with variant := v }).cartridge.variant = v) = true ∧
    (withSpecial .mmm01 0).ext.special ≠ [] ∧ (withCart ramCart).ext.special = [] ∧ 0x8000 ≤ (0x8000#16).toNat ∧
    [0x0000#16, 0x1FFF, 0x2000, 0x2FFF, 0x3000, 0x3FFF, 0x4000, 0x5FFF, 0x6000, 0x7FFF].all
      (fun a => a.toNat < 0x8000) = true := by decide

theorem ramState_inv : (withCart ramCart).Inv where
  memories := by decide
  flags := by decide
  stopHalted := by decide
  dmgSpeed := by decide
  dmaIdle := by decide
  dmaDeadline := by decide
  timaSlot := by decide
  interruptSlot := by decide
  cartridge := by
    intro c h
    have hc : c = ramCart := by
      have : some c = some ramCart := h.symm
      exact Option.some.inj this
    subst hc
    decide
  resetRecord := by decide
  divisor := by decide

theorem witness_EveryBankShownExists :
    (withCart ramCart).Inv ∧ (withCart ramCart).cart = some ramCart ∧ (0x7FFF#16).toNat < 0x8000 ∧
    ({ withCart ramCart with mapper := { State.reset.mapper with ramEnable := true } }).window = .ram true ∧
    0xA000 ≤ (0xA000#16).toNat ∧ (0xBFFF#16).toNat < 0xC000 :=
  ⟨ramState_inv, by decide, by decide, by decide, by decide, by decide⟩

theorem witness_CartridgeWindow :
    let on (c : Cart) (bank : BitVec 4) : State :=
      { withCart c with mapper := { State.reset.mapper with ramEnable := true, ramBankReg := bank } }
    [ramCart, mbc3Cart, State.reset.cartridge, { ramCart with ramBanks := 0, ramBytes := 2048 }].all Cart.wf = true ∧
    plainWindow ramCart = true ∧ plainWindow mbc3Cart = true ∧ (withCart ramCart).cartridge = ramCart ∧
    0 < ramCart.ramBytes ∧ (on ramCart 3).mapper.ramEnable = true ∧ State.reset.mapper.ramEnable = false ∧
    plainWindow State.reset.cartridge = true ∧ State.reset.cartridge.ramBytes = 0 ∧
    [3#4, 7, 8, 12, 13].map (fun b => (on mbc3Cart b).window) = [.ram true, .ram true, .rtc 0, .rtc 4, .ram true] ∧
    [0x0D#8, 0x0E, 0x0F].map (fun m => (withSpecial .huc1 m).window) = [.ram true, .special, .ram true] ∧
    [0x00#8, 0x0A, 0x0B, 0x0E].map (fun m => (withSpecial .huc3 m).window) =
      [.ram false, .ram true, .special, .special] ∧
    [0x00#8, 0x10].map (fun m => (withSpecial .camera m).window) = [.ram false, .special] ∧
    (withSpecial .mmm01 0).window = .special ∧ (withSpecial .mmm01 0).ext.special ≠ [] ∧
    (withCart { State.reset.cartridge with variant := .wisdomTree }).cartridge.ramBytes = 0 ∧
    0xA000 ≤ (0xA000#16).toNat ∧ (0xBFFF#16).toNat < 0xC000 := by decide

/-- 62_mbc.md R439: bank 3 of an MBC5, and the 2 KiB RAM, which repeats. -/
theorem test_ram_banks :
    ({ withCart ramCart with mapper := { State.reset.mapper with ramBankReg := 3 } }).ramOffset 0xBFFF = 0x7FFF ∧
    (withCart { ramCart with ramBanks := 0, ramBytes := 2048 }).ramOffset 0xA800 = 0 := by decide

/-- Clock register 4 selected and enabled, the latch register armed, and the latch window's edges. -/
theorem witness_ClockLatch :
    let s := { withCart mbc3Cart with
      mapper := { State.reset.mapper with ramEnable := true, ramBankReg := 12, latchPrev := 0x00 } }
    s.cartridge.variant = .mbc3 ∧ s.cartridge.hasRtc = true ∧ s.mapper.latchPrev = 0x00 ∧
    s.mapper.ramBankReg.toNat = 8 + 4 ∧ s.mapper.ramEnable = true ∧ State.reset.mapper.latchPrev ≠ 0x00 ∧
    0x6000 ≤ (0x6000#16).toNat ∧ (0x7FFF#16).toNat < 0x8000 ∧ (0x5FFF#16).toNat < 0x6000 ∧
    0xA000 ≤ (0xA000#16).toNat ∧ (0xBFFF#16).toNat < 0xC000 := by decide

/-- A running clock at the last second of its range, a halted one, both layouts, and the offsets at the edge. -/
theorem witness_ClockCounts :
    let r : RtcRegs := { s := 59, m := 59, h := 23, dl := 0xFF, day8 := true, halt := false, carry := false }
    let b : RtcB := { RtcContents.zero.layoutB with minutes := 1439, seconds := 59 }
    let s := { withCart mbc3Cart with rtc := { State.reset.rtc with live := r } }
    let h := { withSpecial .huc3 0 with rtc := { State.reset.rtc with layoutB := b } }
    s.params.rtcSync = .cycle ∧ s.rtcLayoutB = false ∧ s.rtc.last < 4194304 ∧ 0 < rtcDivisor + s.rtc.divisorOffset ∧
    r.halt = false ∧ r.s.toNat < 60 ∧ r.m.toNat < 60 ∧ r.h.toNat < 24 ∧ ({ r with halt := true }).halt = true ∧
    h.rtcLayoutB = true ∧ b.halted = false ∧ b.seconds.toNat < 60 ∧ b.minutes.toNat < 1440 ∧
    ({ b with halted := true }).halted = true ∧ (0 : Int) ≤ s.rtc.last ∧
    (0 : Int) < 4194304 + -4194303 ∧ ¬(0 : Int) < 4194304 + -4194304 := by decide

/-- 63_rtc.md R497: a clock in wall mode, with a host time ahead, with one that goes back, and with none. -/
theorem test_rtc_wall :
    let s (times : List Int) : State :=
      { withCart mbc3Cart with params := { Params.suggested with rtcSync := .wall }, ext := { External.none with times := times } }
    (s [5]).params.rtcSync = .wall ∧ (s [5]).rtc.last < 4 ∧ (s [5]).rtcLayoutB = false ∧
    0 < rtcDivisor + (s [5]).rtc.divisorOffset ∧
    [[5], [-5], []].map (fun l => ((s l).rtcAdvance 4).rtc.live.s) = [5, 0, 0] ∧
    [[5], [-5], []].map (fun l => ((s l).rtcAdvance 4).rtc.hostLast) = [5, -5, 0] := by decide

/-- 63_rtc.md R498: the last second of day 511 gives day 0 with the carry set. -/
theorem test_rtc_day_carry :
    let r : RtcRegs := { s := 59, m := 59, h := 23, dl := 0xFF, day8 := true, halt := false, carry := false }
    r.tickSecond = { RtcRegs.zero with carry := true } := by decide

/-- 63_rtc.md R510: the minute after the last of a day; a halted counter stands still. -/
theorem test_rtc_layoutB :
    let b : RtcB := { RtcContents.zero.layoutB with minutes := 1439, seconds := 59 }
    let h (b : RtcB) : State :=
      { withCart { mbc3Cart with variant := .huc3 } with rtc := { State.reset.rtc with layoutB := b } }
    ((h b).rtcAdvance 4194304).rtc.layoutB = { RtcContents.zero.layoutB with days := 1 } ∧
    ((h { b with halted := true }).rtcAdvance 4194304).rtc.layoutB = { b with halted := true } := by decide

end Sys2Proof.Tests
end

section
/-! SUPPORT. The pseudocode primitives, the opcode fetch and the instruction fetch, one equation each
(00_scope.md R10, 30_encoding.md R141). -/

namespace Sys2Proof.Machine

/-- A bus read changes no cycle stamp, so the one the M-cycle ends with is counted from the state before. -/
theorem memRead_eq (a : Word) (s : State) :
    s.memRead a = ((s.busRead a).1, { (s.busRead a).2 with cc := s.cc + 4 }) := by
  simp only [State.memRead, State.addCc, busRead_cc]

theorem memWrite_eq (a : Word) (v : Byte) (s : State) :
    s.memWrite a v = { s.busWrite a v with cc := s.cc + 4 } := by
  simp only [State.memWrite, State.addCc, busWrite_cc]

theorem fetch8_eq (s : State) : s.fetch8 =
    ((s.memRead s.cpu.pc).1, { (s.memRead s.cpu.pc).2 with cpu := { s.cpu with pc := s.cpu.pc + 1 } }) := by
  simp only [State.fetch8, State.setPc, memRead_cpu]

theorem popByte_eq (s : State) : s.popByte =
    ((s.memRead s.cpu.sp).1, { (s.memRead s.cpu.sp).2 with cpu := { s.cpu with sp := s.cpu.sp + 1 } }) := by
  simp only [State.popByte, State.setSp, memRead_cpu]

/-- `SP` steps down before each byte, the high byte first: no write in between moves it. -/
theorem push16_eq (w : Word) (s : State) : s.push16 w =
    let s1 := ({ s with cpu := { s.cpu with sp := s.cpu.sp - 1 } }).memWrite (s.cpu.sp - 1) (hiByte w)
    ({ s1 with cpu := { s.cpu with sp := s.cpu.sp - 2 } }).memWrite (s.cpu.sp - 2) (loByte w) := by
  have hsp : s.cpu.sp - 1 - 1 = s.cpu.sp - 2 := by bv_omega
  simp only [State.push16, State.setSp, memWrite_cpu, hsp]

/-- `SP` steps up after each byte, the low byte first: no read in between moves it. -/
theorem pop16_eq (s : State) : s.pop16 =
    let lo := s.memRead s.cpu.sp
    let hi := ({ lo.2 with cpu := { s.cpu with sp := s.cpu.sp + 1 } }).memRead (s.cpu.sp + 1)
    (join hi.1 lo.1, { hi.2 with cpu := { s.cpu with sp := s.cpu.sp + 2 } }) := by
  have hsp : s.cpu.sp + 1 + 1 = s.cpu.sp + 2 := by bv_omega
  simp only [State.pop16, popByte_eq, hsp]

theorem fetchOpcode_of_prefetched {s : State} (h : s.cpu.prefetched = true) : s.fetchOpcode =
    (s.cpu.latch, { s with cc := s.cc + 4, cpu := { s.cpu with prefetched := false } }) := if_pos h

theorem fetchOpcode_of_not_prefetched {s : State} (h : s.cpu.prefetched = false) : s.fetchOpcode = s.fetch8 :=
  if_neg (by simp [h])

theorem fetchBytes_zero (s : State) : s.fetchBytes 0 = ([], s) := rfl

theorem fetchBytes_succ (n : Nat) (s : State) :
    s.fetchBytes (n + 1) = (s.fetch8.1 :: (s.fetch8.2.fetchBytes n).1, (s.fetch8.2.fetchBytes n).2) := rfl

theorem fetchInstr_eq (s : State) : s.fetchInstr =
    (s.fetchOpcode.1 :: (s.fetchOpcode.2.fetchBytes (operandCount s.fetchOpcode.1)).1,
      (s.fetchOpcode.2.fetchBytes (operandCount s.fetchOpcode.1)).2) := rfl

/-- Settles O8, by the equation of each primitive: each keeps the registers it does not name because no bus access
changes the CPU. -/
theorem pseudocodePrimitivesAndFetch : Obligations.PseudocodePrimitivesAndFetch := by
  intro a w v n s
  exact ⟨memRead_eq a s, memWrite_eq a v s, rfl, fetch8_eq s, push16_eq w s, pop16_eq s,
    fetchOpcode_of_prefetched, fetchOpcode_of_not_prefetched, fetchBytes_zero s, fetchBytes_succ n s, fetchInstr_eq s⟩

end Sys2Proof.Machine
end

section
/-! SUPPORT. The invariant of Safety.lean across the run loop, a host call and a step, from the lemmas of its parts. -/

namespace Sys2Proof.Machine

variable {strict : Bool} {s t : State}

theorem State.Keeps.runBytes {bytes : List Byte} (h : s.Keeps strict) (e : runBytes bytes s = .next t) :
    t.Keeps strict := by
  unfold Machine.runBytes at e
  split at e
  case h_1 i _ _ => exact exec_keeps i s t h e
  case h_2 => cases e

theorem State.Keeps.executeInstruction (h : s.Keeps strict) (e : executeInstruction s = .next t) : t.Keeps strict :=
  h.fetchInstr.runBytes e

/-- The slot that fires is the next one, so INTERRUPTS fires only while not stopped (60_exceptions.md R357). -/
theorem State.Keeps.runLoop (h : s.Keeps strict) (e : runLoop s = .next t) : t.Keeps strict := by
  unfold Machine.runLoop at e
  split at e
  case h_1 => cases e; exact h
  case h_2 =>
    split_ifs at e
    · cases e; exact h.addCc _
    · exact h.executeInstruction e
    · cases e; exact h.fire _ nextSlot_interrupts

theorem State.Keeps.runMachine (h : s.Keeps strict) (e : runMachine s = .next t) : t.Keeps strict := by
  unfold Machine.runMachine at e
  split at e
  · cases e
  · exact h.runLoop e

/-- A host call that is answered is made: only `RunFor` can be refused. -/
theorem runHostCall_next {c : HostCall} (e : runHostCall c s = .next t) : t = s.hostCall c := by
  cases c with
  | runFor n =>
    simp only [runHostCall] at e
    split at e
    · cases e
    · cases e; rfl
  | setBaseTime ts => cases e; rfl
  | setDivisorOffset o => cases e; rfl
  | reset r => cases e; rfl
  | load q => cases e; rfl

/-- In a run there is no host call to make: a step runs the machine. -/
theorem step_runMachine (h : s.sched.endRun.isSome = true) : step s = runMachine s := by
  simp only [step, machineStep, State.nextCall_inRun h, State.inRun, h, if_true]

/-- The three cases of a step: a host call, one pass of the run loop, or nothing. -/
theorem State.Keeps.step (h : s.Keeps strict) (e : step s = .next t) : t.Keeps strict := by
  cases hrun : s.sched.endRun with
  | none =>
    cases hc : s.ext.calls with
    | nil => cases (step_idle hrun hc).symm.trans e; exact h
    | cons c rest =>
      rw [runHostCall_next ((step_hostCall hrun hc).symm.trans e)]
      exact (h.withExt _).hostCall c
  | some m =>
    have hin : s.sched.endRun.isSome = true := by rw [hrun]; rfl
    exact h.runMachine ((step_runMachine hin).symm.trans e)

/-- Settles O43: the invariant is `Keeps` with a settled interrupt slot, which every case of a step keeps. -/
theorem everyStepKeepsTheInvariant : Obligations.EveryStepKeepsTheInvariant := by
  intro s t h e
  exact (State.keeps_iff_inv t).mp (((State.keeps_iff_inv s).mpr h).step e)

end Sys2Proof.Machine
end

section
/-! SUPPORT. The words of the register file as numbers, and the frame of a register write (10_state.md R22, R23, R26). -/

namespace Sys2Proof.Machine

theorem join_toNat (h l : Byte) : (join h l).toNat = 256 * h.toNat + l.toNat := by
  rw [join, BitVec.toNat_append, ← Nat.shiftLeft_add_eq_or_of_lt l.isLt, Nat.shiftLeft_eq, Nat.mul_comm]

theorem hiByte_toNat (w : Word) : (hiByte w).toNat = w.toNat / 256 := by
  have hlt : w.toNat / 256 < 256 := by have := w.isLt; omega
  rw [hiByte, BitVec.extractLsb'_toNat, Nat.shiftRight_eq_div_pow]
  exact Nat.mod_eq_of_lt hlt

theorem loByte_toNat (w : Word) : (loByte w).toNat = w.toNat % 256 := by
  rw [loByte, BitVec.extractLsb'_toNat, Nat.shiftRight_zero]

/-- What is left of a byte written to `F`: its high nibble (10_state.md R26). -/
theorem highNibble_toNat (v : Byte) : (v &&& 0xF0#8).toNat = v.toNat / 16 * 16 := by
  revert v
  decide

theorem State.reg8_setReg8 (r q : Reg8) (v : Byte) (s : State) :
    (s.setReg8 r v).reg8 q = if q = r then v else s.reg8 q := by
  split_ifs with h
  · subst h; exact State.reg8_setReg8_self q v s
  · exact State.reg8_setReg8_of_ne h v s

/-- A register write changes the CPU only. -/
theorem State.setReg8_withCpu (r : Reg8) (v : Byte) (s : State) : { s.setReg8 r v with cpu := s.cpu } = s := by
  cases r <;> rfl

/-- The write of a pair changes the CPU only. -/
theorem State.setReg16_withCpu (r : Reg16) (w : Word) (s : State) : { s.setReg16 r w with cpu := s.cpu } = s := by
  cases r <;> rfl

/-- Only the pair `AF` holds `F`. -/
theorem State.setReg16_cpu_f {r : Reg16} (h : r ≠ .af) (w : Word) (s : State) :
    (s.setReg16 r w).cpu.f = s.cpu.f := by
  cases r with
  | af => exact absurd rfl h
  | bc | de | hl | sp => rfl

theorem State.setReg16_af_cpu_f_toNat (w : Word) (s : State) :
    (s.setReg16 .af w).cpu.f.toNat = w.toNat % 256 / 16 * 16 := by
  rw [← loByte_toNat]
  exact highNibble_toNat (loByte w)

/-- Settles O9: read back and frame by the laws of the register writes, the pairs by `join` as a number. -/
theorem registerFileAndPairs : Obligations.RegisterFileAndPairs := by
  intro r q p v h l w s
  exact ⟨State.reg8_setReg8 r q v s, State.setReg8_cpu_f r v s, State.setReg8_cpu_sp r v s,
    State.setReg8_withCpu r v s, rfl, rfl, rfl, rfl, rfl, rfl, rfl, rfl, rfl, rfl, rfl, rfl,
    fun hp => ⟨State.reg16_setReg16_self hp w s, State.setReg16_cpu_f hp w s⟩,
    hiByte_toNat w, State.setReg16_af_cpu_f_toNat w s, State.setReg16_withCpu p w s,
    join_toNat _ _, join_toNat _ _, join_toNat _ _, join_toNat _ _, rfl,
    join_toNat h l, hiByte_toNat w, loByte_toNat w⟩

end Sys2Proof.Machine
end

section
/-! SUPPORT. The decoder's view of an access: what the engine's catch-up leaves alone, when an access is diverted, and
the region of each address range (20_memory.md R90, R92; 64_oamdma.md R526). -/

namespace Sys2Proof.Machine

/-- A step of the engine changes OAM, the engine and the list of answers still to come. -/
theorem dmaStep_form (t : Int) (s : State) :
    ∃ o d e, s.dmaStep t = { s with mem := { s.mem with oam := o }, dma := d, ext := e } := by
  simp only [State.dmaStep]
  split_ifs
  · obtain ⟨e, he⟩ := dmaSourceByte_state s.dma.advance.1
      { s with dma := { s.dma with last := some t, pos := s.dma.advance.1, startPos := s.dma.advance.2 } }
    rw [he]
    exact ⟨_, _, e, rfl⟩
  · exact ⟨s.mem.oam, _, s.ext, rfl⟩
  · exact ⟨s.mem.oam, _, s.ext, rfl⟩

theorem dmaSteps_form (n : Nat) (s : State) :
    ∃ o d e, s.dmaSteps n = { s with mem := { s.mem with oam := o }, dma := d, ext := e } := by
  induction n generalizing s with
  | zero => exact ⟨s.mem.oam, s.dma, s.ext, rfl⟩
  | succ n ih =>
    simp only [State.dmaSteps]
    split
    · exact ⟨s.mem.oam, s.dma, s.ext, rfl⟩
    · rename_i l _
      obtain ⟨o, d, e, hstep⟩ := dmaStep_form (l + 4) s
      obtain ⟨o', d', e', hsteps⟩ := ih (s.dmaStep (l + 4))
      exact ⟨o', d', e', by rw [hsteps, hstep]⟩

/-- The catch-up of an access changes OAM, the engine with its slot, and the list of answers still to come. -/
theorem busCatchUp_form (a : Word) (s : State) :
    ∃ o d e q, s.busCatchUp a = { s with mem := { s.mem with oam := o }, dma := d, ext := e, sched := q } := by
  obtain ⟨o, d, e, he⟩ := dmaSteps_form (s.dmaDue s.cc) s
  unfold State.busCatchUp State.dmaCatchUp
  split_ifs
  · exact ⟨s.mem.oam, s.dma, s.ext, s.sched, rfl⟩
  · rw [he]
    exact ⟨o, d, e, _, rfl⟩
  · exact ⟨s.mem.oam, s.dma, s.ext, s.sched, rfl⟩

section
variable (a : Word) (s : State)

@[simp] theorem busCatchUp_cc : (s.busCatchUp a).cc = s.cc := (steady_busCatchUp a s).cc
@[simp] theorem busCatchUp_cart : (s.busCatchUp a).cart = s.cart := (steady_busCatchUp a s).cart
@[simp] theorem busCatchUp_params : (s.busCatchUp a).params = s.params := (steady_busCatchUp a s).params

@[simp] theorem busCatchUp_io : (s.busCatchUp a).io = s.io := by
  obtain ⟨o, d, e, q, h⟩ := busCatchUp_form a s
  rw [h]

@[simp] theorem busCatchUp_mapper : (s.busCatchUp a).mapper = s.mapper := by
  obtain ⟨o, d, e, q, h⟩ := busCatchUp_form a s
  rw [h]

@[simp] theorem busCatchUp_cgb : (s.busCatchUp a).cgb = s.cgb := by simp only [State.cgb, busCatchUp_params]

@[simp] theorem busCatchUp_cartridge : (s.busCatchUp a).cartridge = s.cartridge := by
  simp only [State.cartridge, busCatchUp_cart]

@[simp] theorem busCatchUp_window : (s.busCatchUp a).window = s.window := by
  simp only [State.window, busCatchUp_cartridge, busCatchUp_mapper]

@[simp] theorem busCatchUp_romBank0 : (s.busCatchUp a).romBank0 = s.romBank0 := by
  simp only [State.romBank0, busCatchUp_cartridge, busCatchUp_mapper]

@[simp] theorem busCatchUp_romBankN : (s.busCatchUp a).romBankN = s.romBankN := by
  simp only [State.romBankN, busCatchUp_cartridge, busCatchUp_mapper]

@[simp] theorem busCatchUp_vramBank : (s.busCatchUp a).vramBank = s.vramBank := by
  simp only [State.vramBank, busCatchUp_cgb, busCatchUp_io]

@[simp] theorem busCatchUp_wramBank : (s.busCatchUp a).wramBank = s.wramBank := by
  simp only [State.wramBank, busCatchUp_cgb, busCatchUp_io]

@[simp] theorem busCatchUp_vramIndex (k : Nat) : (s.busCatchUp a).vramIndex k = s.vramIndex k := by
  unfold State.vramIndex
  rw [busCatchUp_vramBank]

@[simp] theorem busCatchUp_wramIndex (k : Nat) : (s.busCatchUp a).wramIndex k = s.wramIndex k := by
  unfold State.wramIndex
  rw [busCatchUp_wramBank]

theorem meetsEngine_iff : s.meetsEngine a = true ↔ a.toNat < 0xFF80 ∧ s.dma.last ≠ none := by
  simp only [State.meetsEngine, Bool.and_eq_true, decide_eq_true_eq, Option.isSome_iff_ne_none]

theorem busCatchUp_eq :
    s.busCatchUp a = if a.toNat < 0xFF80 ∧ s.dma.last ≠ none then s.dmaCatchUp s.cc else s := by
  simp only [State.busCatchUp, meetsEngine_iff]

theorem diverted_iff : s.diverted a = true ↔
    a.toNat < 0xFF80 ∧ s.dma.last ≠ none ∧ (s.busCatchUp a).dma.pos.toNat < 0xA0 ∧
      inConflictArea s.cgb (s.busCatchUp a).dma.src a.toNat = true := by
  simp only [State.diverted, State.oamFree, Bool.and_eq_true, meetsEngine_iff, Bool.not_eq_true',
    decide_eq_false_iff_not, Nat.not_le, and_assoc]

end

section
variable {a : Word} {s : State}

/-- An access to HRAM or `IE` does not meet the engine. -/
theorem busCatchUp_of_le (h : 0xFF80 ≤ a.toNat) : s.busCatchUp a = s := by
  rw [busCatchUp_eq, if_neg (by omega)]

theorem busCatchUp_of_idle (h : s.dma.last = none) : s.busCatchUp a = s := by
  rw [busCatchUp_eq, if_neg (by simp [h])]

theorem busRead_of_diverted (h : s.diverted a = true) :
    s.busRead a = ((s.busCatchUp a).byte .oam (s.busCatchUp a).dma.pos.toNat, s.busCatchUp a) := if_pos h

theorem busRead_of_not_diverted (h : ¬s.diverted a = true) : s.busRead a = (s.busCatchUp a).decodedRead a := if_neg h

theorem busWrite_of_diverted {v : Byte} (h : s.diverted a = true) :
    s.busWrite a v = (s.busCatchUp a).setByte .oam (s.busCatchUp a).dma.pos.toNat v := if_pos h

theorem busWrite_of_not_diverted {v : Byte} (h : ¬s.diverted a = true) :
    s.busWrite a v = (s.busCatchUp a).decodedWrite a v := if_neg h

end

section
variable {a : Word}

theorem region_romLow (h : a.toNat < 0x4000) : region a = .romLow := if_pos h
theorem region_romHigh (h : 0x4000 ≤ a.toNat) (h' : a.toNat < 0x8000) : region a = .romHigh := by grind [region]
theorem region_vram (h : 0x8000 ≤ a.toNat) (h' : a.toNat < 0xA000) : region a = .vram := by grind [region]
theorem region_cart (h : 0xA000 ≤ a.toNat) (h' : a.toNat < 0xC000) : region a = .cart := by grind [region]
theorem region_wram (h : 0xC000 ≤ a.toNat) (h' : a.toNat < 0xE000) : region a = .wram := by grind [region]
theorem region_echo (h : 0xE000 ≤ a.toNat) (h' : a.toNat < 0xFE00) : region a = .echo := by grind [region]
theorem region_oam (h : 0xFE00 ≤ a.toNat) (h' : a.toNat < 0xFEA0) : region a = .oam := by grind [region]
theorem region_oamx (h : 0xFEA0 ≤ a.toNat) (h' : a.toNat < 0xFF00) : region a = .oamx := by grind [region]
theorem region_io (h : 0xFF00 ≤ a.toNat) (h' : a.toNat < 0xFF80) : region a = .io := by grind [region]
theorem region_hram (h : 0xFF80 ≤ a.toNat) (h' : a.toNat < 0xFFFF) : region a = .hram := by grind [region]
theorem region_ie (h : a.toNat = 0xFFFF) : region a = .ie := by grind [region]

end

end Sys2Proof.Machine
end

section
/-! SUPPORT. Reads and writes of the bus, region by region (20_memory.md R90 to R105). -/

namespace Sys2Proof.Machine

variable {a : Word} {s : State}

theorem romIndex_busCatchUp_low (b : Word) {k : Nat} (h : k < 0x4000) :
    (s.busCatchUp b).romIndex k = s.romBank0 * 0x4000 + k := by
  rw [State.romIndex, if_pos h, busCatchUp_romBank0]

theorem romIndex_busCatchUp_high (b : Word) {k : Nat} (h : 0x4000 ≤ k) :
    (s.busCatchUp b).romIndex k = s.romBankN * 0x4000 + (k - 0x4000) := by
  rw [State.romIndex, if_neg (Nat.not_lt.mpr h), busCatchUp_romBankN]

/-- A caught-up state drives the bus with the stamp of the access (20_memory.md R93). -/
theorem drive_busCatchUp (b : Word) (v : Byte) :
    (s.busCatchUp b).drive v = { s.busCatchUp b with bus := { value := v, time := s.cc } } := by
  simp only [State.drive, busCatchUp_cc]

/-- The OAM page can be read: its gate is open and the engine is not copying (20_memory.md R103). -/
def State.oamOpen (s : State) : Prop := s.askOam.1 = true ∧ 0xA0 ≤ s.dma.pos.toNat

theorem askOam_and_oamFree_iff : (s.askOam.1 && s.oamFree) = true ↔ s.oamOpen := by
  simp only [State.oamOpen, State.oamFree, Bool.and_eq_true, decide_eq_true_eq]

theorem oamPageRead_of_open (h : s.oamOpen) (st : Store) (i : Nat) :
    s.oamPageRead st i = (s.byte st i, s.askOam.2) := by
  rw [State.oamPageRead, if_pos (askOam_and_oamFree_iff.mpr h)]

theorem oamPageRead_of_closed (h : ¬s.oamOpen) (st : Store) (i : Nat) :
    s.oamPageRead st i = (0xFF, s.askOam.2) := by
  rw [State.oamPageRead, if_neg (mt askOam_and_oamFree_iff.mp h)]

/-- A closed OAM page answers `0xFF` on both of its parts. -/
theorem decodedRead_of_oam_closed (h : 0xFE00 ≤ a.toNat) (h' : a.toNat < 0xFF00) (hc : ¬s.oamOpen) :
    s.decodedRead a = (0xFF, s.askOam.2) := by
  rcases Nat.lt_or_ge a.toNat 0xFEA0 with ho | ho
  · simp only [State.decodedRead, region_oam h ho, oamPageRead_of_closed hc]
  · simp only [State.decodedRead, region_oamx ho h', oamPageRead_of_closed hc]

/-- Settles O46: a diverted read is the first branch of `busRead`; any other is the decoder's, by the region of the
address. -/
theorem busReadDecodesEveryAddress : Obligations.BusReadDecodesEveryAddress := by
  intro a s n c conflict driven vbk wbk wram oamOpen
  have hc : c = s.busCatchUp a := (busCatchUp_eq a s).symm
  have hn : a.toNat = n := rfl
  clear_value c n
  subst hn hc
  have hconflict : s.diverted a = true ↔ conflict := diverted_iff a s
  refine ⟨fun h => busRead_of_diverted (hconflict.mpr h), fun h => ?_⟩
  rw [busRead_of_not_diverted (mt hconflict.mp h)]
  refine ⟨fun h => ?_, fun h h' => ?_, fun h h' => ?_, fun h h' => ?_, fun h h' => ?_, fun h h' => ?_,
    fun h h' ho => ?_, fun h h' ho => ?_, fun h h' ho => ?_, fun h h' => ?_, fun h h' => ?_, fun h => ?_⟩
  · simp only [State.decodedRead, region_romLow h, State.romRead, drive_busCatchUp]
    rw [romIndex_busCatchUp_low a h]
  · simp only [State.decodedRead, region_romHigh h h', State.romRead, drive_busCatchUp]
    rw [romIndex_busCatchUp_high a h]
  · simp only [State.decodedRead, region_vram h h', State.vramRead, busCatchUp_vramIndex]
    rfl
  · simp only [State.decodedRead, region_cart h h']
  · simp only [State.decodedRead, region_wram h h', busCatchUp_wramIndex]
    rfl
  · simp only [State.decodedRead, region_echo h h', busCatchUp_wramIndex]
    rfl
  · simp only [State.decodedRead, region_oam h h', oamPageRead_of_open ho]
  · simp only [State.decodedRead, region_oamx h h', oamPageRead_of_open ho]
  · exact decodedRead_of_oam_closed h h' ho
  · simp only [State.decodedRead, region_io h h']
  · simp only [State.decodedRead, region_hram h h', busCatchUp_of_le h]
  · have hle : 0xFF80 ≤ a.toNat := h ▸ by decide
    simp only [State.decodedRead, region_ie h, busCatchUp_of_le hle]

theorem oamPageWrite_of_open (h : s.oamOpen) (st : Store) (i : Nat) (v : Byte) :
    s.oamPageWrite st i true v = s.askOam.2.setByte st i v := by
  rw [State.oamPageWrite, Bool.and_true, if_pos (askOam_and_oamFree_iff.mpr h)]

theorem oamPageWrite_of_closed (h : ¬s.oamOpen) (st : Store) (i : Nat) (b : Bool) (v : Byte) :
    s.oamPageWrite st i b v = s.askOam.2 := by
  rw [State.oamPageWrite, if_neg fun e => h (askOam_and_oamFree_iff.mp (Bool.and_eq_true_iff.mp e).1)]

theorem oamPageWrite_of_not_allowed (st : Store) (i : Nat) (v : Byte) :
    s.oamPageWrite st i false v = s.askOam.2 := by
  rw [State.oamPageWrite, Bool.and_false, if_neg Bool.false_ne_true]

/-- A write to a closed OAM page is dropped on both of its parts. -/
theorem decodedWrite_of_oam_closed (h : 0xFE00 ≤ a.toNat) (h' : a.toNat < 0xFF00) (hc : ¬s.oamOpen) (v : Byte) :
    s.decodedWrite a v = s.askOam.2 := by
  rcases Nat.lt_or_ge a.toNat 0xFEA0 with ho | ho
  · simp only [State.decodedWrite, region_oam h ho, oamPageWrite_of_closed hc]
  · simp only [State.decodedWrite, region_oamx ho h', oamPageWrite_of_closed hc]

/-- Both ROM windows hand a write to the mapper and drive the bus (20_memory.md R97). -/
theorem decodedWrite_of_rom (h : a.toNat < 0x8000) (v : Byte) : s.decodedWrite a v = (s.drive v).romWrite a v := by
  rcases Nat.lt_or_ge a.toNat 0x4000 with hl | hl
  · simp only [State.decodedWrite, region_romLow hl]
  · simp only [State.decodedWrite, region_romHigh hl h]

/-- Settles O47: a diverted write is the first branch of `busWrite`, any other is the decoder's, by the region of the
address; the ROM image is in the frame of every write. -/
theorem busWriteDecodesEveryAddress : Obligations.BusWriteDecodesEveryAddress := by
  intro a v s n c conflict vbk wbk wram oamOpen
  have hc : c = s.busCatchUp a := (busCatchUp_eq a s).symm
  have hn : a.toNat = n := rfl
  clear_value c n
  subst hn hc
  have hconflict : s.diverted a = true ↔ conflict := diverted_iff a s
  refine ⟨fun h => busWrite_of_diverted (hconflict.mpr h), fun h => ?_, (steady_busWrite a v s).rom⟩
  rw [busWrite_of_not_diverted (mt hconflict.mp h)]
  refine ⟨fun h => ?_, fun h h' hq => ?_, fun h h' hq => ?_, fun h h' => ?_, fun h h' => ?_, fun h h' => ?_,
    fun h h' ho => ?_, fun h h' ho hg => ?_, fun h h' ho => ?_, fun h h' hg => ?_, fun h h' => ?_, fun h h' => ?_,
    fun h => ?_⟩
  · rw [decodedWrite_of_rom h, drive_busCatchUp]
  · simp only [State.decodedWrite, region_vram h h', State.vramWrite, hq, if_true, busCatchUp_vramIndex]
    rfl
  · simp only [State.decodedWrite, region_vram h h', State.vramWrite, hq, Bool.false_eq_true, if_false]
  · simp only [State.decodedWrite, region_cart h h']
  · simp only [State.decodedWrite, region_wram h h', busCatchUp_wramIndex]
    rfl
  · simp only [State.decodedWrite, region_echo h h', busCatchUp_wramIndex]
    rfl
  · simp only [State.decodedWrite, region_oam h h', oamPageWrite_of_open ho]
  · simp only [State.decodedWrite, region_oamx h h', busCatchUp_cgb, hg, oamPageWrite_of_open ho]
  · exact decodedWrite_of_oam_closed h h' ho v
  · simp only [State.decodedWrite, region_oamx h h', busCatchUp_cgb, hg, oamPageWrite_of_not_allowed]
  · simp only [State.decodedWrite, region_io h h']
  · simp only [State.decodedWrite, region_hram h h', busCatchUp_of_le h]
  · have hle : 0xFF80 ≤ a.toNat := h ▸ by decide
    simp only [State.decodedWrite, region_ie h, busCatchUp_of_le hle]
    rfl

end Sys2Proof.Machine
end

section
/-! SUPPORT. A call of an external handler, and the ports of the I/O window (20_memory.md R106, R107, R112). -/

namespace Sys2Proof.Machine

open Sys2Proof.Family

theorem lastOf_cons {κ α : Type} [DecidableEq κ] (c : κ × α) (l : List (κ × α)) (k : κ) (old : α) :
    lastOf (c :: l) k old = lastOf l k (if c.1 = k then c.2 else old) := rfl

/-- The `Sched.set` calls of a handler leave the last deadline given to each device slot, and the other slots alone. -/
theorem foldl_set_eq_lastOf (l : List (ExtSlot × Option Int)) (d : Deadlines) :
    l.foldl (fun d c => d.set c.1.slot c.2) d =
      { d with blit := lastOf l .blit d.blit, serial := lastOf l .serial d.serial, hdma := lastOf l .hdma d.hdma,
               video := lastOf l .video d.video } := by
  induction l generalizing d with
  | nil => rfl
  | cons c l ih =>
    obtain ⟨sl, t⟩ := c
    rw [List.foldl_cons, ih]
    cases sl <;> rfl

/-- The VRAM bytes of a handler: the last one given to an index is read back. -/
theorem read_foldl_write (l : List (Nat × Byte)) (m : Memory) (k : Nat) :
    (l.foldl (fun m c => m.write c.1 c.2) m).read k = lastOf l k (m.read k) := by
  induction l generalizing m with
  | nil => rfl
  | cons c l ih => rw [List.foldl_cons, ih, lastOf_cons, Memory.read_write]

/-- The answer's deadlines and VRAM bytes, before its interrupt requests. -/
theorem applyAnswer_eq (hdma : Bool) (ans : ExtAnswer) (s : State) :
    s.applyAnswer hdma ans =
      let u : State := { s with
        sched := { s.sched with
          blit := lastOf ans.sets .blit s.sched.blit
          serial := lastOf ans.sets .serial s.sched.serial
          hdma := lastOf ans.sets .hdma s.sched.hdma
          video := lastOf ans.sets .video s.sched.video }
        mem := { s.mem with
          vram := if hdma then ans.vram.foldl (fun m c => m.write c.1 c.2) s.mem.vram else s.mem.vram } }
      if ans.irq = 0 then u else u.requestIrqs ans.irq := by
  simp only [State.applyAnswer, State.applySets_eq, State.applyVram_eq, foldl_set_eq_lastOf]
  cases hdma <;> rfl

theorem applyAnswer_vram (hdma : Bool) (ans : ExtAnswer) (s : State) : (s.applyAnswer hdma ans).mem.vram =
    if hdma then ans.vram.foldl (fun m c => m.write c.1 c.2) s.mem.vram else s.mem.vram := by
  rw [applyAnswer_eq]
  by_cases hq : ans.irq = 0
  · rw [if_pos hq]
  · rw [if_neg hq]
    rfl

/-- The whole state after an answer, VRAM given by `applyAnswer_vram`. -/
theorem applyAnswer_form (hdma : Bool) (ans : ExtAnswer) (s : State) : s.applyAnswer hdma ans =
    { s with
      io := { s.io with ifr := s.io.ifr ||| ans.irq }
      sched := { s.sched with
        blit := lastOf ans.sets .blit s.sched.blit
        serial := lastOf ans.sets .serial s.sched.serial
        hdma := lastOf ans.sets .hdma s.sched.hdma
        video := lastOf ans.sets .video s.sched.video
        interrupts := if ans.irq = 0 then s.sched.interrupts else (s.applyAnswer hdma ans).interruptDeadline }
      mem := { s.mem with vram := (s.applyAnswer hdma ans).mem.vram } } := by
  rw [applyAnswer_vram, applyAnswer_eq]
  by_cases hq : ans.irq = 0
  · simp only [hq, if_true, BitVec.ofNat_eq_ofNat, BitVec.or_zero]
  · simp only [hq, if_false]
    rfl

/-- What a call of an external handler does, in one statement (20_memory.md R112). -/
theorem callExt_handlerDoes (hdma : Bool) (ev : ExtEvent) (s : State) :
    handlerDoes hdma ev s (s.callExt hdma ev).2 := by
  unfold handlerDoes
  split
  · rename_i h
    rw [State.callExt_nil h]
    rfl
  · rename_i ans rest h
    rw [State.callExt_cons h]
    refine ⟨applyAnswer_form hdma ans _, ?_, ?_⟩
    · rintro rfl
      rw [applyAnswer_vram]
      rfl
    · rintro rfl k
      refine Eq.trans ?_ (read_foldl_write ans.vram s.mem.vram k)
      rw [State.byte, Mems.get, applyAnswer_vram]
      rfl

/-- A call keeps everything but `IF`, the device slots and INTERRUPTS, VRAM and the lists of the outside. -/
theorem callExt_form (hdma : Bool) (ev : ExtEvent) (s : State) : ∃ i d m e, (s.callExt hdma ev).2 =
    { s with io := { s.io with ifr := i }, sched := d, mem := { s.mem with vram := m }, ext := e } ∧
      d.endRun = s.sched.endRun := by
  have h := callExt_handlerDoes hdma ev s
  unfold handlerDoes at h
  split at h
  · exact ⟨s.io.ifr, s.sched, s.mem.vram, _, h, rfl⟩
  · exact ⟨_, _, _, _, h.1, rfl⟩

section
variable (hdma : Bool) (ev : ExtEvent) (s : State)

@[simp] theorem callExt_mapper : (s.callExt hdma ev).2.mapper = s.mapper := by
  obtain ⟨i, d, m, e, h, -⟩ := callExt_form hdma ev s
  rw [h]

@[simp] theorem callExt_rtc : (s.callExt hdma ev).2.rtc = s.rtc := by
  obtain ⟨i, d, m, e, h, -⟩ := callExt_form hdma ev s
  rw [h]

@[simp] theorem callExt_endRun : (s.callExt hdma ev).2.sched.endRun = s.sched.endRun := by
  obtain ⟨i, d, m, e, h, hd⟩ := callExt_form hdma ev s
  rw [h, hd]

end

theorem timerCatchUp_divBase (t : Int) (s : State) : (s.timerCatchUp t).timer.divBase = s.timer.divBase := by
  simp only [State.timerCatchUp, State.timerCount]
  split_ifs <;> rfl

theorem Timer.div_toNat (tm : Timer) (t : Int) : (tm.div t).toNat = ((t - tm.divBase) / 256 % 256).toNat :=
  BitVec.toNat_ofInt _

/-- The unused bits of `TAC`, `IF`, `VBK` and `SVBK` read 1 (20_memory.md R106). -/
theorem tac_read_toNat (v : BitVec 3) : (0xF8#8 ||| v.setWidth 8).toNat = 0xF8 + v.toNat := by
  revert v
  decide

theorem if_read_toNat (v : BitVec 5) : (0xE0#8 ||| v.setWidth 8).toNat = 0xE0 + v.toNat := by
  revert v
  decide

theorem vbk_read_toNat (v : BitVec 1) : (0xFE#8 ||| v.setWidth 8).toNat = 0xFE + v.toNat := by
  revert v
  decide

theorem key1_toNat (s : State) : s.key1.toNat = 0x7E + 128 * s.cpu.doubleSpeed.toNat + s.io.prepare.toNat := by
  unfold State.key1
  cases s.cpu.doubleSpeed <;> cases s.io.prepare <;> rfl

theorem isHdmaAddress_eq (a : Word) : isHdmaAddress a = decide (0xFF51 ≤ a.toNat ∧ a.toNat ≤ 0xFF55) :=
  (Bool.decide_and _ _).symm

/-- A port that is not the model's own goes to the external handler. -/
theorem ioRead_external {a : Word}
    (h : a ∉ [0xFF00#16, 0xFF04, 0xFF05, 0xFF06, 0xFF07, 0xFF0F, 0xFF46, 0xFF4D, 0xFF4F, 0xFF70]) (s : State) :
    s.ioRead a = s.extIoRead a := by
  unfold State.ioRead
  split
  case h_11 => rfl
  all_goals
    rename_i hn
    simp [← BitVec.toNat_inj, hn] at h

theorem ioWrite_external {a : Word}
    (h : a ∉ [0xFF04#16, 0xFF05, 0xFF06, 0xFF07, 0xFF0F, 0xFF46, 0xFF4D, 0xFF4F, 0xFF70]) (v : Byte)
    (s : State) : s.ioWrite a v = s.extIoWrite a v := by
  unfold State.ioWrite
  split
  case h_10 => rfl
  all_goals
    rename_i hn
    simp [← BitVec.toNat_inj, hn] at h

/-- The ports only the CGB has read `0xFF` on a DMG (20_memory.md R106). -/
theorem ioRead_dmg {s : State} (hg : s.cgb = false) :
    s.ioRead 0xFF4D = (0xFF, s) ∧ s.ioRead 0xFF4F = (0xFF, s) ∧ s.ioRead 0xFF70 = (0xFF, s) := by
  have hne : ¬s.cgb = true := by rw [hg]; exact Bool.false_ne_true
  exact ⟨congrArg (·, s) (if_neg hne), congrArg (·, s) (if_neg hne), congrArg (·, s) (if_neg hne)⟩

/-- Settles O50: each listed port by its arm of `ioRead`, its unused bits by the value of the byte; every other port by
what a call of an external handler does. -/
theorem portsReadAsListed : Obligations.PortsReadAsListed := by
  intro s c
  refine ⟨rfl, ?_, rfl, rfl, rfl, tac_read_toNat s.timer.tac, rfl, rfl, if_read_toNat _, rfl, ioRead_dmg,
    fun hg => ?_, fun a h => ioRead_external h s, fun a => ⟨fun h => ?_, fun ans r h => ?_, ?_⟩⟩
  · exact (Timer.div_toNat _ _).trans (by rw [timerCatchUp_divBase])
  · have hkey : (s.ioRead 0xFF4D).1 = s.key1 := if_pos hg
    have hvbk : (s.ioRead 0xFF4F).1 = 0xFE#8 ||| s.io.vbk.setWidth 8 := if_pos hg
    have hsvbk : (s.ioRead 0xFF70).1 = 0xF8#8 ||| s.io.svbk.setWidth 8 := if_pos hg
    rw [hkey, hvbk, hsvbk]
    exact ⟨key1_toNat s, rfl, vbk_read_toNat _, rfl, tac_read_toNat _, rfl⟩
  · rw [State.extIoRead, State.callExt_nil h]
  · rw [State.extIoRead, State.callExt_cons h]
  · rw [State.extIoRead, isHdmaAddress_eq]
    exact callExt_handlerDoes _ _ s

/-- Settles O51: each listed port by its arm of `ioWrite`, every other by what a call of an external handler does. -/
theorem portsAreWrittenAsListed : Obligations.PortsAreWrittenAsListed := by
  intro v s c k page
  refine ⟨rfl, rfl, rfl, rfl, rfl, rfl, fun hg => ?_, fun hg => ?_, fun a h => ioWrite_external h v s, fun a => ?_⟩
  · have hne : ¬s.cgb = true := by rw [hg]; exact Bool.false_ne_true
    exact ⟨if_neg hne, if_neg hne, if_neg hne⟩
  · exact ⟨if_pos hg, if_pos hg, if_pos hg⟩
  · rw [State.extIoWrite, isHdmaAddress_eq]
    exact callExt_handlerDoes _ _ s

end Sys2Proof.Machine
end

section
/-! SUPPORT. What a bus access does to storage: the one cell a write lands in, and the operations that leave every array
alone (20_memory.md R84, R90, R91). -/

namespace Sys2Proof.Machine

/-- The arrays with the cell a write lands in, if any, stored. -/
def Mems.putCell (m : Mems) (cell : Option (Store × Nat × Byte)) : Mems :=
  match cell with
  | some (st, i, v) => m.set st ((m.get st).write i v)
  | none => m

@[simp] theorem Mems.putCell_none (m : Mems) : m.putCell none = m := rfl

@[simp] theorem setByte_mem (st : Store) (i : Nat) (v : Byte) (s : State) :
    (s.setByte st i v).mem = s.mem.putCell (some (st, i, v)) := rfl

theorem Mems.wf_putCell {m : Mems} (h : m.wf = true) (cell : Option (Store × Nat × Byte)) :
    (m.putCell cell).wf = true := by
  match cell with
  | none => exact h
  | some (st, i, v) => exact Mems.wf_set h st (Memory.wf_write _ i v (Mems.wf_get h st))

/-- Every byte of every array after a cell is stored. -/
theorem Mems.read_putCell (m : Mems) (cell : Option (Store × Nat × Byte)) (st : Store) (k : Nat) :
    ((m.putCell cell).get st).read k =
      match cell with
      | some (st', k', v) => if st = st' ∧ k = k' then v else (m.get st).read k
      | none => (m.get st).read k := by
  match cell with
  | none => rfl
  | some (st', k', v) =>
    by_cases hst : st = st'
    · subst hst
      simp only [Mems.putCell, Mems.get_set_self, Memory.read_write, true_and, eq_comm]
    · simp only [Mems.putCell, Mems.get_set_of_ne hst, hst, false_and, if_false]

/-! ### Operations that leave every array alone -/

section
variable (s : State)

@[simp] theorem askVram_mem : s.askVram.2.mem = s.mem := by
  unfold State.askVram
  split <;> rfl

@[simp] theorem askOam_mem : s.askOam.2.mem = s.mem := by
  unfold State.askOam
  split <;> rfl

@[simp] theorem poll_mem : s.poll.2.mem = s.mem := by
  unfold State.poll
  split <;> rfl

@[simp] theorem hostTime_mem : s.hostTime.2.mem = s.mem := by
  unfold State.hostTime
  split <;> rfl

@[simp] theorem rtcAdvance_mem (t : Int) : (s.rtcAdvance t).mem = s.mem := by
  simp only [State.rtcAdvance]
  split
  · rfl
  · split
    · rfl
    · exact hostTime_mem s

@[simp] theorem rtcWrite_mem (i : Nat) (v : Byte) : (s.rtcWrite i v).mem = s.mem := rtcAdvance_mem s s.cc

@[simp] theorem writeLatch_mem (v : Byte) : (s.writeLatch v).mem = s.mem := by
  simp only [State.writeLatch]
  split
  · exact rtcAdvance_mem s s.cc
  · rfl

@[simp] theorem timerCatchUp_mem (t : Int) : (s.timerCatchUp t).mem = s.mem := by
  simp only [State.timerCatchUp, State.timerCount]
  split_ifs <;> rfl

/-- A handler other than HDMA's writes no memory. -/
@[simp] theorem callExt_mem (ev : ExtEvent) : (s.callExt false ev).2.mem = s.mem := by
  have h := callExt_handlerDoes false ev s
  unfold Family.handlerDoes at h
  split at h
  · rw [h]
  · obtain ⟨hform, hvram, -⟩ := h
    rw [hform, hvram rfl]

theorem ifCatchUp_mem : s.ifCatchUp.mem = s.mem := (callExt_mem _ _).trans (timerCatchUp_mem s s.cc)

end

section
variable {a : Word} {s : State}

theorem extIoRead_mem (h : isHdmaAddress a = false) : (s.extIoRead a).2.mem = s.mem := by
  rw [State.extIoRead, h]
  exact callExt_mem s _

theorem extIoWrite_mem (h : isHdmaAddress a = false) (v : Byte) : (s.extIoWrite a v).mem = s.mem := by
  rw [State.extIoWrite, h]
  exact callExt_mem s _

theorem ioRead_mem (h : isHdmaAddress a = false) : (s.ioRead a).2.mem = s.mem := by
  unfold State.ioRead
  split
  · exact (extIoRead_mem h).trans (poll_mem s)
  · exact timerCatchUp_mem s s.cc
  · exact timerCatchUp_mem s s.cc
  · rfl
  · rfl
  · exact ifCatchUp_mem s
  · rfl
  · rfl
  · rfl
  · rfl
  · exact extIoRead_mem h

theorem ioWrite_mem (h : isHdmaAddress a = false) (v : Byte) : (s.ioWrite a v).mem = s.mem := by
  unfold State.ioWrite
  split
  · exact timerCatchUp_mem s s.cc
  · exact timerCatchUp_mem s s.cc
  · exact timerCatchUp_mem s s.cc
  · exact timerCatchUp_mem s s.cc
  · exact ifCatchUp_mem s
  · rfl
  · unfold State.writeKey1; split <;> rfl
  · unfold State.writeVbk; split <;> rfl
  · unfold State.writeSvbk; split <;> rfl
  · exact extIoWrite_mem h v

/-- Of the mappers, MMM01 alone hands a register write to a handler. -/
theorem romWrite_mem (h : s.cartridge.variant ≠ .mmm01) (v : Byte) : (s.romWrite a v).mem = s.mem := by
  cases hv : s.cartridge.variant <;> simp only [State.romWrite, hv]
  case plain => split <;> rfl
  case mbc3 =>
    split
    · rfl
    · exact writeLatch_mem s v
  case mmm01 => exact absurd hv h

/-! ### The decoder's accesses -/

theorem reachesWriter_eq_false_iff : s.reachesWriter a = false ↔
    isHdmaAddress a = false ∧ (region a = .cart → s.window ≠ .special) ∧
      (a.toNat < 0x8000 → s.cartridge.variant ≠ .mmm01) := by
  simp only [State.reachesWriter, Bool.or_eq_false_iff, Bool.and_eq_false_imp, decide_eq_true_eq,
    decide_eq_false_iff_not, and_assoc, ne_eq, imp_not_comm]

theorem reachesWriter_busCatchUp (b : Word) : (s.busCatchUp b).reachesWriter a = s.reachesWriter a := by
  simp only [State.reachesWriter, busCatchUp_window, busCatchUp_cartridge]

theorem lt_of_region_rom (h : region a = .romLow ∨ region a = .romHigh) : a.toNat < 0x8000 := by grind [region]

theorem cartWindowRead_mem (h : s.window ≠ .special) : (s.cartWindowRead a).2.mem = s.mem := by
  cases hw : s.window <;> simp only [State.cartWindowRead, hw, State.drive_mem]
  case special => exact absurd hw h

theorem decodedRead_mem (h : s.reachesWriter a = false) : (s.decodedRead a).2.mem = s.mem := by
  obtain ⟨hhdma, hcart, -⟩ := reachesWriter_eq_false_iff.mp h
  cases hr : region a <;> simp only [State.decodedRead, hr]
  case romLow => rfl
  case romHigh => rfl
  case vram => exact askVram_mem s
  case cart => exact cartWindowRead_mem (hcart hr)
  case oam => exact askOam_mem s
  case oamx => exact askOam_mem s
  case io => exact ioRead_mem hhdma

theorem vramWrite_mem (v : Byte) : (s.vramWrite a v).mem =
    s.mem.putCell (if s.askVram.1 then some (.vram, s.vramIndex a.toNat, v) else none) := by
  unfold State.vramWrite
  split <;> simp

theorem oamPageWrite_mem (st : Store) (i : Nat) (b : Bool) (v : Byte) : (s.oamPageWrite st i b v).mem =
    s.mem.putCell (if s.askOam.1 && s.oamFree && b then some (st, i, v) else none) := by
  unfold State.oamPageWrite
  split <;> simp

theorem decodedWrite_mem (h : s.reachesWriter a = false) (v : Byte) :
    (s.decodedWrite a v).mem = s.mem.putCell (s.decodedCell a v) := by
  obtain ⟨hhdma, hcart, hrom⟩ := reachesWriter_eq_false_iff.mp h
  cases hr : region a <;> simp only [State.decodedWrite, State.decodedCell, hr]
  case romLow => exact romWrite_mem (s := s.drive v) (hrom (lt_of_region_rom (.inl hr))) v
  case romHigh => exact romWrite_mem (s := s.drive v) (hrom (lt_of_region_rom (.inr hr))) v
  case vram => exact vramWrite_mem v
  case cart =>
    cases hw : s.window with
    | closed => simp only [State.cartWindowWrite, hw, Mems.putCell_none]
    | ram writable => cases writable <;> simp [State.cartWindowWrite, hw]
    | halfBytes => simp only [State.cartWindowWrite, hw, State.drive_mem, setByte_mem]
    | rtc i => simp only [State.cartWindowWrite, hw, State.drive_mem, rtcWrite_mem, Mems.putCell_none]
    | special => exact absurd hw (hcart hr)
  case wram => exact setByte_mem _ _ _ s
  case echo => exact setByte_mem _ _ _ s
  case oam => simpa using oamPageWrite_mem .oam (a.toNat - 0xFE00) true v
  case oamx => exact oamPageWrite_mem .oamx (a.toNat - 0xFEA0) s.cgb v
  case io => exact ioWrite_mem hhdma v
  case hram => exact setByte_mem _ _ _ s
  case ie => rfl

/-! ### The bus -/

theorem busRead_mem (h : s.reachesWriter a = false) : (s.busRead a).2.mem = (s.busCatchUp a).mem := by
  by_cases hd : s.diverted a = true
  · rw [busRead_of_diverted hd]
  · rw [busRead_of_not_diverted hd, decodedRead_mem (by rwa [reachesWriter_busCatchUp])]

theorem busWrite_mem (h : s.reachesWriter a = false) (v : Byte) :
    (s.busWrite a v).mem = (s.busCatchUp a).mem.putCell (s.storedCell a v) := by
  unfold State.storedCell
  by_cases hd : s.diverted a = true
  · rw [busWrite_of_diverted hd, if_pos hd, setByte_mem]
  · rw [busWrite_of_not_diverted hd, if_neg hd, decodedWrite_mem (by rwa [reachesWriter_busCatchUp])]

theorem byte_busWrite (h : s.reachesWriter a = false) (v : Byte) (st : Store) (k : Nat) :
    (s.busWrite a v).byte st k =
      match s.storedCell a v with
      | some (st', k', w) => if st = st' ∧ k = k' then w else (s.busCatchUp a).byte st k
      | none => (s.busCatchUp a).byte st k := by
  rw [State.byte, busWrite_mem h]
  exact Mems.read_putCell _ _ st k

theorem busCatchUp_wf (h : s.mem.wf = true) : (s.busCatchUp a).mem.wf = true := by
  unfold State.busCatchUp State.dmaCatchUp
  split_ifs
  · exact h
  · exact (dmaSteps_keeps _ s).wf h
  · exact h

/-- Settles O48: a write is the engine's catch-up and then one stored cell, a read the catch-up alone. -/
theorem busAccessesChangeOnlyTheAddressedCell : Obligations.BusAccessesChangeOnlyTheAddressedCell := by
  intro a v st k s h
  refine ⟨byte_busWrite h v st k, busRead_mem h, busCatchUp_of_idle, fun hm => ⟨?_, ?_⟩⟩
  · rw [busWrite_mem h v]
    exact Mems.wf_putCell (busCatchUp_wf hm) _
  · rw [busRead_mem h]
    exact busCatchUp_wf hm

end

end Sys2Proof.Machine
end

section
/-! SUPPORT. The instructions that make one store: the store forms of `LD` and the read-modify-write forms on `(HL)`
(40_load8.md R172 to R188; 42_alu8.md R230, R232; 44_rotate_shift_bit.md R274 to R285). -/

namespace Sys2Proof.Machine

open Sys2Proof.Family

/-! ### What each form runs -/

theorem exec_ldIndReg (r : Reg8) (s : State) :
    exec (ldIndReg r) s = .next (s.memWrite (s.reg16 .hl) (s.reg8 r)) := by
  cases r <;> rfl

/-- The address of the high-page forms, as a number (30_encoding.md R150). -/
theorem highPage_eq (v : Byte) : highPage v = BitVec.ofNat 16 (0xFF00 + v.toNat) := by
  have hv : v.toNat < 256 := v.isLt
  apply BitVec.eq_of_toNat_eq
  simp only [highPage, BitVec.truncate_eq_setWidth, BitVec.toNat_add, BitVec.toNat_setWidth, BitVec.toNat_ofNat]
  omega

theorem exec_storeA (m : LoadA) (s : State) : exec (storeA m) s = .next (s.memWrite (m.address s) s.cpu.a) := by
  cases m with
  | indBC | indDE | abs _ => rfl
  | high v => exact congrArg (fun w => Host.Outcome.next (s.memWrite w s.cpu.a)) (highPage_eq v)
  | highC => exact congrArg (fun w => Host.Outcome.next (s.memWrite w s.cpu.a)) (highPage_eq s.cpu.c)

theorem exec_rot (op : RotOp) (r : Operand) (s : State) :
    exec (rot op r) s = .next (s.rotate (rotOp op.code) r) := by
  cases op <;> rfl

theorem exec_res (b : Fin 8) (r : Operand) (s : State) :
    exec (Family.res b r) s = .next (s.changeBit (resetBit b.val) r) := by
  fin_cases b <;> rfl

theorem exec_set (b : Fin 8) (r : Operand) (s : State) :
    exec (Family.set b r) s = .next (s.changeBit (setBit b.val) r) := by
  fin_cases b <;> rfl

/-- The machine's rotates and shifts against the spec's on numbers (44_rotate_shift_bit.md R275 to R282). -/
theorem rotOp_code_eq (op : RotOp) (m : Byte) (c : Bool) :
    rotOp op.code m c = (BitVec.ofNat 8 (op.result m.toNat c).1, (op.result m.toNat c).2) := by
  revert m c
  cases op <;> decide

/-! ### The store and the CPU -/

/-- A store form is one write at its address; after it only the stepping forms change the CPU, and of it only `HL`. -/
theorem exec_store8 (f : Store8) (s : State) : ∃ t, exec f.instr s = .next t ∧
    t.mem = (s.busWrite (f.address s) (f.value s)).mem ∧ (f ≠ .inc → f ≠ .dec → t.cpu = s.cpu) ∧
    { t.cpu with h := s.cpu.h, l := s.cpu.l } = s.cpu := by
  cases f with
  | reg r =>
    refine ⟨_, exec_ldIndReg r s, rfl, fun _ _ => memWrite_cpu _ _ s, ?_⟩
    rw [memWrite_cpu]
  | imm v =>
    refine ⟨_, rfl, rfl, fun _ _ => memWrite_cpu _ _ s, ?_⟩
    rw [memWrite_cpu]
  | fromA m =>
    refine ⟨_, exec_storeA m s, rfl, fun _ _ => memWrite_cpu _ _ s, ?_⟩
    rw [memWrite_cpu]
  | inc =>
    refine ⟨(s.memWrite (s.reg16 .hl) s.cpu.a).stepHL 1, rfl, rfl, fun h => absurd rfl h, ?_⟩
    simp only [State.stepHL, State.setReg16, memWrite_cpu]
  | dec =>
    refine ⟨(s.memWrite (s.reg16 .hl) s.cpu.a).stepHL (-1), rfl, rfl, fun _ h => absurd rfl h, ?_⟩
    simp only [State.stepHL, State.setReg16, memWrite_cpu]

/-- A read of the byte at `HL` leaves `HL` where the write back goes. -/
theorem memRead_reg16 (a : Word) (r : Reg16) (s : State) : (s.memRead a).2.reg16 r = s.reg16 r := by
  cases r <;> simp only [State.reg16, memRead_cpu]

theorem modify_inc_value (m : Byte) (c : Bool) : Modify.inc.value m c = m + 1 := by
  show BitVec.ofNat 8 (m.toNat + 1) = m + 1
  bv_omega

theorem modify_dec_value (m : Byte) (c : Bool) : Modify.dec.value m c = m - 1 := by
  show BitVec.ofNat 8 (m.toNat + 255) = m - 1
  bv_omega

/-- A read-modify-write form is one read and one write of its value at `HL`; of the CPU only `F` changes. -/
theorem exec_modify (g : Modify) (s : State) : ∃ t, exec g.instr s = .next t ∧
    t.mem = ((s.memRead (s.reg16 .hl)).2.busWrite (s.reg16 .hl)
      (g.value (s.memRead (s.reg16 .hl)).1 (s.cpu.f.getLsbD 4))).mem ∧
    { t.cpu with f := s.cpu.f } = s.cpu := by
  cases g with
  | inc =>
    refine ⟨s.incMem, rfl, ?_, ?_⟩
    · rw [modify_inc_value]
      rfl
    · simp [State.incMem, State.incFlags, State.setFlags, State.setF]
  | dec =>
    refine ⟨s.decMem, rfl, ?_, ?_⟩
    · rw [modify_dec_value]
      rfl
    · simp [State.decMem, State.decFlags, State.setFlags, State.setF]
  | rot op =>
    refine ⟨_, exec_rot op .indHL s, ?_, ?_⟩
    · simp only [State.rotate, State.readOperand, State.writeOperand, memRead_reg16, rotOp_code_eq]
      rfl
    · simp [State.rotate, State.readOperand, State.writeOperand, State.setFlags, State.setF]
  | res b =>
    refine ⟨_, exec_res b .indHL s, ?_, ?_⟩
    · simp only [State.changeBit, State.readOperand, State.writeOperand, memRead_reg16]
      rfl
    · simp [State.changeBit, State.readOperand, State.writeOperand]
  | set b =>
    refine ⟨_, exec_set b .indHL s, ?_, ?_⟩
    · simp only [State.changeBit, State.readOperand, State.writeOperand, memRead_reg16]
      rfl
    · simp [State.changeBit, State.readOperand, State.writeOperand]

/-- Settles O13: each form is one bus write, whose effect on storage is the addressed cell's. -/
theorem storesChangeOnlyTheCellTheyAddress : Obligations.StoresChangeOnlyTheCellTheyAddress := by
  intro f g s hl r x
  constructor
  · intro h
    obtain ⟨t, hexec, hmem, hcpu, hhl⟩ := exec_store8 f s
    refine ⟨t, hexec, fun st k => ?_, hcpu, hhl⟩
    rw [State.byte, hmem]
    exact byte_busWrite h (f.value s) st k
  · intro h
    obtain ⟨t, hexec, hmem, hcpu⟩ := exec_modify g s
    refine ⟨t, hexec, fun st k => ?_, hcpu⟩
    rw [State.byte, hmem]
    exact byte_busWrite h x st k

end Sys2Proof.Machine
end

section
/-! SUPPORT. No step but a cartridge load changes the ROM image (20_memory.md R91; 10_state.md R50): the shared
operations, the instructions, the slots, the host's calls, and the step. -/

namespace Sys2Proof.Machine

/-! ### Instruction families -/

section
variable (s : State)

theorem memRead_rom (a : Word) : (s.memRead a).2.mem.rom = s.mem.rom := (steady_busRead a s).rom

theorem memWrite_rom (a : Word) (v : Byte) : (s.memWrite a v).mem.rom = s.mem.rom := (steady_busWrite a v s).rom

theorem push16_rom (v : Word) : (s.push16 v).mem.rom = s.mem.rom := (memWrite_rom _ _ _).trans (memWrite_rom _ _ _)

theorem pop16_rom : s.pop16.2.mem.rom = s.mem.rom := (memRead_rom s.popByte.2 _).trans (memRead_rom s _)

theorem readOperand_rom (r : Operand) : (s.readOperand r).2.mem.rom = s.mem.rom := by
  cases r with
  | reg x => rfl
  | indHL => exact memRead_rom s _

theorem writeOperand_rom (r : Operand) (v : Byte) : (s.writeOperand r v).mem.rom = s.mem.rom := by
  cases r with
  | reg x => exact congrArg Mems.rom (State.setReg8_mem x v s)
  | indHL => exact memWrite_rom s _ v

theorem rotate_rom (f : Byte → Bool → Byte × Bool) (r : Operand) : (s.rotate f r).mem.rom = s.mem.rom :=
  (writeOperand_rom _ r _).trans (readOperand_rom s r)

theorem testBit_rom (b : Nat) (r : Operand) : (s.testBit b r).mem.rom = s.mem.rom := readOperand_rom s r

theorem changeBit_rom (f : Byte → Byte) (r : Operand) : (s.changeBit f r).mem.rom = s.mem.rom :=
  (writeOperand_rom _ r _).trans (readOperand_rom s r)

theorem prefixed_rom (b : Byte) : (s.prefixed b).mem.rom = s.mem.rom := by
  simp only [State.prefixed]
  split
  · exact rotate_rom s _ _
  · exact testBit_rom s _ _
  · exact changeBit_rom s _ _
  · exact changeBit_rom s _ _

theorem jumpIf_rom (k : Cond) (a : Word) : (s.jumpIf k a).mem.rom = s.mem.rom := by
  unfold State.jumpIf
  split <;> rfl

theorem relativeIf_rom (k : Cond) (e : Byte) : (s.relativeIf k e).mem.rom = s.mem.rom := by
  unfold State.relativeIf
  split <;> rfl

theorem callIf_rom (k : Cond) (a : Word) : (s.callIf k a).mem.rom = s.mem.rom := by
  unfold State.callIf
  split
  · exact push16_rom s.tick _
  · rfl

theorem returnIf_rom (k : Cond) : (s.returnIf k).mem.rom = s.mem.rom := by
  unfold State.returnIf
  split
  · exact pop16_rom s.tick
  · rfl

theorem halt_rom : s.halt.mem.rom = s.mem.rom := by
  have hread (u : State) : (u.busRead u.cpu.pc).2.mem.rom = u.mem.rom := (steady_busRead _ u).rom
  have htimer : (s.timerCatchUp s.cc).mem.rom = s.mem.rom := (steady_timerCatchUp _ s).rom
  simp only [State.halt]
  split_ifs
  · exact (hread _).trans htimer
  · exact htimer
  · exact (hread _).trans htimer

theorem stop_rom : s.stop.mem.rom = s.mem.rom := by
  have hdiv : ((s.setPc (s.cpu.pc + 1)).writeDiv).mem.rom = s.mem.rom := (steady_writeDiv _).rom
  simp only [State.stop]
  split_ifs
  · exact (steady_rtcAdvance _ _).rom.trans hdiv
  · exact (steady_dmaCatchUp _ _).rom.trans hdiv

end

/-- No instruction changes the ROM image. The groups are the instructions that access no memory, those that read it,
those that write it, and those with both or with a choice. -/
theorem exec_rom {i : Instr} {s t : State} (e : exec i s = .next t) : t.mem.rom = s.mem.rom := by
  cases i with
  | nop | ldBCImm _ | incBC | incB | decB | ldBImm _ | rlca | addHLBC | decBC | incC | decC | ldCImm _ | rrca
  | ldDEImm _ | incDE | incD | decD | ldDImm _ | rla | jr _ | addHLDE | decDE | incE | decE | ldEImm _ | rra
  | ldHLImm _ | incHL | incH | decH | ldHImm _ | daa | addHLHL | decHL | incL | decL | ldLImm _ | cpl | ldSPImm _
  | incSP | scf | addHLSP | decSP | incA | decA | ldAImm _ | ccf | ldBB | ldBC | ldBD | ldBE | ldBH | ldBL | ldBA
  | ldCB | ldCC | ldCD | ldCE | ldCH | ldCL | ldCA | ldDB | ldDC | ldDD | ldDE | ldDH | ldDL | ldDA | ldEB | ldEC
  | ldED | ldEE | ldEH | ldEL | ldEA | ldHB | ldHC | ldHD | ldHE | ldHH | ldHL | ldHA | ldLB | ldLC | ldLD | ldLE
  | ldLH | ldLL | ldLA | ldAB | ldAC | ldAD | ldAE | ldAH | ldAL | ldAA | addAB | addAC | addAD | addAE | addAH
  | addAL | addAA | adcAB | adcAC | adcAD | adcAE | adcAH | adcAL | adcAA | subB | subC | subD | subE | subH | subL
  | subA | sbcAB | sbcAC | sbcAD | sbcAE | sbcAH | sbcAL | sbcAA | andB | andC | andD | andE | andH | andL | andA
  | xorB | xorC | xorD | xorE | xorH | xorL | xorA | orB | orC | orD | orE | orH | orL | orA | cpB | cpC | cpD
  | cpE | cpH | cpL | cpA | jp _ | addAImm _ | adcAImm _ | undefD3 | subImm _ | undefDB | undefDD | sbcAImm _
  | undefE3 | undefE4 | andImm _ | addSPImm _ | jpHL | undefEB | undefEC | undefED | xorImm _ | di | undefF4
  | orImm _ | ldHLSPImm _ | ldSPHL | ei | undefFC | undefFD | cpImm _ => cases e; rfl
  | ldAIndBC | ldAIndDE | ldAIndHLInc | ldAIndHLDec | ldBIndHL | ldCIndHL | ldDIndHL | ldEIndHL | ldHIndHL
  | ldLIndHL | ldAIndHL | addAIndHL | adcAIndHL | subIndHL | sbcAIndHL | andIndHL | xorIndHL | orIndHL | cpIndHL
  | ldhAIndA8 _ | ldhAIndC | ldAIndA16 _ => cases e; exact memRead_rom s _
  | ldIndBCA | ldIndDEA | ldIndHLIncA | ldIndHLDecA | ldIndHLImm _ | ldIndHLB | ldIndHLC | ldIndHLD | ldIndHLE
  | ldIndHLH | ldIndHLL | ldIndHLA | ldhIndA8A _ | ldhIndCA | ldIndA16A _ => cases e; exact memWrite_rom s _ _
  | incIndHL | decIndHL => cases e; exact (memWrite_rom _ _ _).trans (memRead_rom s _)
  | pushBC | rst00 | call _ | rst08 | pushDE | rst10 | rst18 | pushHL | rst20 | rst28 | pushAF | rst30 | rst38 =>
    cases e; exact push16_rom s.tick _
  | popBC | ret | popDE | reti | popHL | popAF => cases e; exact pop16_rom s
  | jpNZ _ | jpZ _ | jpNC _ | jpC _ => cases e; exact jumpIf_rom s _ _
  | jrNZ _ | jrZ _ | jrNC _ | jrC _ => cases e; exact relativeIf_rom s _ _
  | callNZ _ | callZ _ | callNC _ | callC _ => cases e; exact callIf_rom s _ _
  | retNZ | retZ | retNC | retC => cases e; exact returnIf_rom s _
  | rlc _ | rrc _ | rl _ | rr _ | sla _ | sra _ | swap _ | srl _ => cases e; exact rotate_rom s _ _
  | bit0 _ | bit1 _ | bit2 _ | bit3 _ | bit4 _ | bit5 _ | bit6 _ | bit7 _ => cases e; exact testBit_rom s _ _
  | res0 _ | res1 _ | res2 _ | res3 _ | res4 _ | res5 _ | res6 _ | res7 _ | set0 _ | set1 _ | set2 _ | set3 _
  | set4 _ | set5 _ | set6 _ | set7 _ => cases e; exact changeBit_rom s _ _
  | halt => cases e; exact halt_rom s
  | stop => cases e; exact stop_rom s
  | prefixCb => cases e; exact (prefixed_rom _ _).trans (memRead_rom s _)
  | ldIndA16SP _ => cases e; exact (memWrite_rom _ _ _).trans (memWrite_rom s _ _)

/-! ### Slots and host calls -/

section
variable (s : State)

theorem extFire_rom (sl : ExtSlot) : (s.extFire sl).mem.rom = s.mem.rom :=
  (steady_callExt _ _ (s.setSlot sl.slot none)).rom

theorem endStop_rom : s.endStop.mem.rom = s.mem.rom := (steady_callExt _ _ _).rom

theorem fireUnhalt_rom : s.fireUnhalt.mem.rom = s.mem.rom := by
  simp only [State.fireUnhalt]
  split_ifs
  · exact endStop_rom s
  · rfl

theorem enterVector_mem (p : BitVec 5) : (s.enterVector p).mem = s.mem := by
  unfold State.enterVector
  split_ifs <;> rfl

theorem undoPrefetch_mem : s.undoPrefetch.mem = s.mem := by
  unfold State.undoPrefetch
  split_ifs <;> rfl

theorem dispatchHigh_rom : s.dispatchHigh.mem.rom = s.mem.rom :=
  ((steady_timerCatchUp _ _).rom.trans (memWrite_rom _ _ _)).trans (congrArg Mems.rom (undoPrefetch_mem s))

theorem interruptDispatch_rom : s.interruptDispatch.mem.rom = s.mem.rom :=
  ((congrArg Mems.rom (enterVector_mem _ _)).trans (memWrite_rom _ _ _)).trans (dispatchHigh_rom s)

theorem wake_mem : s.wake.mem = s.mem := by
  unfold State.wake
  split_ifs <;> rfl

theorem fireInterrupts_rom : s.fireInterrupts.mem.rom = s.mem.rom := by
  have hwake : s.wake.mem.rom = s.mem.rom := congrArg Mems.rom (wake_mem s)
  simp only [State.fireInterrupts]
  split_ifs
  · exact (interruptDispatch_rom _).trans hwake
  · exact hwake

theorem rebase_rom : s.rebase.mem.rom = s.mem.rom :=
  (((steady_timerCatchUp s.cc s).trans (steady_dmaCatchUp s.cc _)).trans (steady_rtcAdvance s.cc _)).rom

theorem endRun_rom : s.endRun.mem.rom = s.mem.rom := by
  simp only [State.endRun]
  split_ifs
  · exact rebase_rom _
  · rfl

theorem fire_rom (sl : Slot) : (s.fire sl).mem.rom = s.mem.rom := by
  cases sl with
  | unhalt => exact fireUnhalt_rom s
  | endRun => exact endRun_rom s
  | blit | serial | hdma | video => exact extFire_rom s _
  | oamDma => exact (steady_dmaCatchUp _ s).rom
  | tima => exact (steady_timerCatchUp _ s).rom
  | interrupts => exact fireInterrupts_rom s

theorem beginRun_rom (n : Nat) : (s.beginRun n).mem.rom = s.mem.rom := by
  simp only [State.beginRun]
  split_ifs
  · exact (steady_poll s).rom
  · exact (steady_poll s).rom
  · rfl

theorem setDivisorOffset_rom (o : Int) : (s.setDivisorOffset o).mem.rom = s.mem.rom := by
  unfold State.setDivisorOffset
  split_ifs
  · exact (steady_rtcAdvance _ s).rom
  · rfl

/-- A reset keeps the memories (70_reset_and_hazards.md R552; log 8). -/
theorem hostReset_mem (r : Option RtcContents) : (s.hostReset r).mem = s.mem := callExt_mem _ _

/-- Of the host's calls the load alone changes the ROM image. -/
theorem hostCall_rom {c : HostCall} (h : ∀ q, c ≠ .load q) : (s.hostCall c).mem.rom = s.mem.rom := by
  cases c with
  | runFor n => exact beginRun_rom s n
  | setBaseTime ts => exact (steady_rtcAdvance _ s).rom
  | setDivisorOffset o => exact setDivisorOffset_rom s o
  | reset r => exact congrArg Mems.rom (hostReset_mem s r)
  | load q => exact absurd rfl (h q)

end

/-! ### The step -/

section
variable {s t : State}

theorem fetchBytes_rom (n : Nat) (s : State) : (s.fetchBytes n).2.mem.rom = s.mem.rom := by
  induction n generalizing s with
  | zero => rfl
  | succ n ih => exact (ih s.fetch8.2).trans (memRead_rom s _)

theorem fetchInstr_rom (s : State) : s.fetchInstr.2.mem.rom = s.mem.rom := by
  refine (fetchBytes_rom _ _).trans ?_
  unfold State.fetchOpcode
  split_ifs
  · rfl
  · exact memRead_rom s _

theorem executeInstruction_rom (e : executeInstruction s = .next t) : t.mem.rom = s.mem.rom := by
  unfold executeInstruction runBytes at e
  split at e
  · exact (exec_rom e).trans (fetchInstr_rom s)
  · cases e

theorem runLoop_rom (e : runLoop s = .next t) : t.mem.rom = s.mem.rom := by
  unfold runLoop at e
  split at e
  · cases e; rfl
  · split_ifs at e
    · cases e; rfl
    · exact executeInstruction_rom e
    · cases e; exact fire_rom s _

theorem runMachine_rom (e : runMachine s = .next t) : t.mem.rom = s.mem.rom := by
  unfold runMachine at e
  split at e
  · cases e
  · exact runLoop_rom e

/-- The three cases of a step: a host call other than a load, one pass of the run loop, or nothing. -/
theorem step_rom (h : ∀ r u, s.nextCall ≠ some (.load r, u)) (e : step s = .next t) : t.mem.rom = s.mem.rom := by
  unfold step machineStep at e
  split at e
  · rename_i q hq
    rw [runHostCall_next e]
    have hload : ∀ r, q.1 ≠ .load r := fun r hr => h r q.2 (hq.trans (congrArg (fun c => some (c, q.2)) hr))
    refine (hostCall_rom q.2 hload).trans ?_
    unfold State.nextCall at hq
    split at hq <;> cases hq
    rfl
  · split_ifs at e
    · exact runMachine_rom e
    · cases e; rfl

end

end Sys2Proof.Machine
end

section
/-! SUPPORT. A cartridge load: the header's tables, the outcome of `loadCart` in each case, and the machine a load
leaves (62_mbc.md R431, R432, R434, R443, R474; 70_reset_and_hazards.md R550, R552). -/

namespace Sys2Proof.Machine

open Sys2Proof.Family

/-! ### The header's tables -/

/-- A type's row of the spec's table. -/
def CartType.row (t : CartType) : TypeRow where
  variant := t.variant
  ram := t.ram
  battery := t.battery
  rtc := t.rtc
  rumble := t.rumble

/-- The machine's type table is the spec's (62_mbc.md R432). -/
theorem find_cartTypes (b : Byte) :
    cartTypes.find? (fun x => x.1 = b.toNat) = (cartType b).map (fun t => (b.toNat, t.row)) := by
  revert b
  decide

/-- The plain type without RAM is the one of type byte `0x00` (62_mbc.md R432). -/
theorem cartType_plain (b : Byte) : ∀ t ∈ cartType b, t.variant = .plain → t.ram = false → b.toNat = 0x00 := by
  revert b
  decide

/-- The RAM size codes as two lists (62_mbc.md R434). -/
theorem ramSizeOf_eq (c : Byte) : ramSizeOf c =
    if c.toNat ≤ 5 then
      some ([0, 0, 1, 4, 16, 8].getD c.toNat 0, [0, 2048, 0x2000, 0x8000, 0x20000, 0x10000].getD c.toNat 0)
    else none := by
  revert c
  decide

theorem romBanksOf_of_le {c : Byte} (h : c.toNat ≤ 8) : romBanksOf c = some (2 * 2 ^ c.toNat) := if_pos h

theorem romBanksOf_of_lt {c : Byte} (h : 8 < c.toNat) : romBanksOf c = none := if_neg (Nat.not_le.mpr h)

theorem ramSize_of_listed {t : CartType} {c : Byte} (h : t.ram = true → c.toNat ≤ 5) : t.ramSize c =
    some (if t.ram then [0, 0, 1, 4, 16, 8].getD c.toNat 0 else 0,
      if t.ram then [0, 2048, 0x2000, 0x8000, 0x20000, 0x10000].getD c.toNat 0 else 0) := by
  unfold CartType.ramSize
  cases ht : t.ram with
  | false => rfl
  | true => simp only [if_true, ramSizeOf_eq, if_pos (h ht)]

theorem ramSize_of_not_listed {t : CartType} {c : Byte} (h : t.ram = true) (h' : 5 < c.toNat) : t.ramSize c = none := by
  rw [CartType.ramSize, if_pos h, ramSizeOf_eq, if_neg (Nat.not_le.mpr h')]

/-! ### The outcome of a load -/

section
variable {q : LoadRequest} {f : RomFile}

theorem loadCart_of_no_file (h : q.file = none) : loadCart q = .error .ioFailure := by
  rw [loadCart, h]

theorem loadCart_of_short (h : q.file = some f) (hs : f.size < headerEnd) : loadCart q = .error .invalidHeader := by
  simp only [loadCart, h, if_pos hs]

theorem loadCart_of_header (h : q.file = some f) (hs : headerEnd ≤ f.size) : loadCart q = headerCart f q := by
  simp only [loadCart, h, if_neg (Nat.not_lt.mpr hs)]

theorem headerCart_of_not_listed (h : cartType (f.image.read 0x0147) = none) :
    headerCart f q = .error .unsupportedMapper := by
  rw [headerCart, h]

variable {t : CartType}

theorem headerCart_of_sizes {n : Nat} {ram : Nat × Nat} (h : cartType (f.image.read 0x0147) = some t)
    (hn : romBanksOf (f.image.read 0x0148) = some n) (hr : t.ramSize (f.image.read 0x0149) = some ram)
    (hs : n * 0x4000 ≤ f.size) : headerCart f q = .ok (t.cart n ram q) := by
  simp only [headerCart, h, hn, hr, if_neg (Nat.not_lt.mpr hs)]

/-- A size code not listed, or an image shorter than its size code says, is an invalid header (log 13). -/
theorem headerCart_of_invalid (h : cartType (f.image.read 0x0147) = some t)
    (hbad : 8 < (f.image.read 0x0148).toNat ∨ (t.ram = true ∧ 5 < (f.image.read 0x0149).toNat) ∨
      f.size < 2 * 2 ^ (f.image.read 0x0148).toNat * 0x4000) : headerCart f q = .error .invalidHeader := by
  rcases Nat.lt_or_ge 8 (f.image.read 0x0148).toNat with hrom | hrom
  · simp only [headerCart, h, romBanksOf_of_lt hrom]
  · rcases hbad.resolve_left (Nat.not_lt.mpr hrom) with ⟨hram, h5⟩ | hsize
    · simp only [headerCart, h, romBanksOf_of_le hrom, ramSize_of_not_listed hram h5]
    · cases hr : t.ramSize (f.image.read 0x0149) <;>
        simp only [headerCart, h, romBanksOf_of_le hrom, hr, if_pos hsize]

/-- The variant a load installs is its type's, or Wisdom Tree where the heuristic finds one on a plain cartridge without
RAM (62_mbc.md R474). -/
theorem finalVariant_cases (t : CartType) (n : Nat) (w : Bool) : t.finalVariant n w = t.variant ∨
    (t.finalVariant n w = .wisdomTree ∧ w = true ∧ t.variant = .plain ∧ t.ram = false ∧ 2 < n) := by
  unfold CartType.finalVariant
  split_ifs with h
  · exact .inr ⟨rfl, h⟩
  · exact .inl rfl

end

/-- The multicart wiring is the loader's finding on an MBC1 cartridge of 64 banks (62_mbc.md R443). -/
theorem cart_multicart {t : CartType} {n : Nat} {ram : Nat × Nat} {q : LoadRequest}
    (h : (t.cart n ram q).multicart = true) : t.variant = .mbc1 ∧ n = 64 ∧ q.multicart = true := by
  have h' : ((q.multicart && t.variant = .mbc1) && n = 64) = true := h
  simp only [Bool.and_eq_true, decide_eq_true_eq] at h'
  obtain ⟨⟨hq, hv⟩, hn⟩ := h'
  exact ⟨hv, hn, hq⟩

/-! ### The machine a load leaves -/

theorem hostCall_load_error {q : LoadRequest} {e : LoadFailure} (h : loadCart q = .error e) (s : State) :
    s.hostCall (.load q) =
      { s with cart := none, ext := { s.ext with log := .loaded (some e) :: s.ext.log } } := by
  show s.hostLoad q = _
  rw [State.hostLoad, h]
  rfl

/-! A reset takes the CPU, the mapper and the clock from its record, and leaves END disabled
(70_reset_and_hazards.md R550); the devices, called at its end, change none of these. -/

section
variable (r : Option RtcContents) (s : State)

theorem hostReset_cart : (s.hostReset r).cart = s.cart := (steady_callExt _ _ _).cart

theorem hostReset_cpu : (s.hostReset r).cpu = s.params.reset.cpu := (steady_callExt _ _ _).cpu

theorem hostReset_mapper : (s.hostReset r).mapper = s.params.reset.mapper.atReset s.cart := callExt_mapper _ _ _

theorem hostReset_endRun : (s.hostReset r).sched.endRun = none := callExt_endRun _ _ _

theorem hostReset_live : (s.hostReset r).rtc.live = (r.getD s.params.reset.rtc).live :=
  congrArg Rtc.live (callExt_rtc _ _ _)

end

theorem hostCall_load_ok {q : LoadRequest} {k : Cart} (h : loadCart q = .ok k) (s : State) :
    s.hostCall (.load q) =
      (({ s with cart := some k, mem := q.mems s.mem }).hostReset q.sidecar).logEvent (.loaded none) := by
  show s.hostLoad q = _
  rw [State.hostLoad, h]

/-- Settles O49: the step by its three cases, the load by the tables of the header and the reset it ends with. -/
theorem noStepChangesTheRomImage : Obligations.NoStepChangesTheRomImage := by
  intro q s t
  refine ⟨step_rom, loadCart_of_no_file, ?_, fun e h => hostCall_load_error h s, ?_⟩
  · intro f hf row rom ram
    refine ⟨loadCart_of_short hf, fun hs hrow => ?_, fun hs x hx => ?_⟩
    · have hnone := (find_cartTypes _).symm.trans hrow
      rw [loadCart_of_header hf hs, headerCart_of_not_listed (Option.map_eq_none_iff.mp hnone)]
    · obtain ⟨ty, hty, rfl⟩ := Option.map_eq_some_iff.mp ((find_cartTypes _).symm.trans hx)
      rw [loadCart_of_header hf hs]
      refine ⟨fun hrom hram hsize => ?_, headerCart_of_invalid hty⟩
      refine ⟨_, headerCart_of_sizes hty (romBanksOf_of_le hrom) (ramSize_of_listed hram) hsize,
        rfl, rfl, rfl, rfl, rfl, rfl, ?_, cart_multicart⟩
      refine (finalVariant_cases ty _ q.wisdomTree).imp_right fun ⟨hv, hw, hp, hr, hb⟩ => ⟨hv, ?_, hw, hb⟩
      exact cartType_plain _ ty hty hp hr
  · intro k f h hf u
    have hu : u = _ := hostCall_load_ok h s
    have hmems : q.mems s.mem = { s.mem with rom := f.image, sram := Memory.ofCells q.battery } := by
      simp only [LoadRequest.mems, hf]
    rw [hu, ← hmems]
    exact ⟨hostReset_cart _ _, hostReset_mem _ _, hostReset_cpu _ _, hostReset_mapper _ _, hostReset_endRun _ _,
      hostReset_live _ _, rfl⟩

end Sys2Proof.Machine
end

section
/-! SUPPORT. Decoding as a relation with one rule for each form of opcode, and the opcode table read in both directions
(30_encoding.md R140, R143, R151 to R157). -/

namespace Sys2Proof.Machine

/-! ### Bytes and their fields -/

theorem loByte_join (h l : Byte) : loByte (join h l) = l := by
  apply BitVec.eq_of_toNat_eq
  rw [loByte_toNat, join_toNat]
  omega

theorem hiByte_join (h l : Byte) : hiByte (join h l) = h := by
  apply BitVec.eq_of_toNat_eq
  rw [hiByte_toNat, join_toNat]
  omega

/-- The byte with the fields `x`, `y` and `z` (30_encoding.md R142). -/
def opByte (x y z : Nat) : Byte := BitVec.ofNat 8 (64 * x + 8 * y + z)

theorem opByte_fields (op : Byte) : opByte (fieldX op) (fieldY op) (fieldZ op) = op := by
  apply BitVec.eq_of_toNat_eq
  rw [opByte, BitVec.toNat_ofNat, fieldX, fieldY, fieldZ]
  omega

theorem fieldX_lt (op : Byte) : fieldX op < 4 := by
  have := op.isLt
  unfold fieldX
  omega

theorem fieldY_lt (op : Byte) : fieldY op < 8 := Nat.mod_lt _ (by decide)

theorem fieldZ_lt (op : Byte) : fieldZ op < 8 := Nat.mod_lt _ (by decide)

/-! ### The relation -/

/-- `bytes` begin with the encoding of `i` and go on with `rest`: one rule for each form, and the byte `0xCB` alone. -/
inductive Decodes : List Byte → Instr → List Byte → Prop
  | plain {op : Byte} {i : Instr} {rest : List Byte} (h : opForm op = .plain i) : Decodes (op :: rest) i rest
  | imm8 {op v : Byte} {f : Byte → Instr} {rest : List Byte} (h : opForm op = .imm8 f) :
      Decodes (op :: v :: rest) (f v) rest
  | imm16 {op lo hi : Byte} {f : Word → Instr} {rest : List Byte} (h : opForm op = .imm16 f) :
      Decodes (op :: lo :: hi :: rest) (f (join hi lo)) rest
  | skip {op : Byte} {i : Instr} {tl : List Byte} (h : opForm op = .skip i) : Decodes (op :: tl) i tl.tail
  | cb {op op2 : Byte} {rest : List Byte} (h : opForm op = .cb) : Decodes (op :: op2 :: rest) (cbInstr op2) rest
  | lonePrefix {op : Byte} (h : opForm op = .cb) : Decodes [op] .prefixCb []

variable {bytes rest : List Byte} {i : Instr}

theorem decodes_of_decode (h : decode bytes = .ok i rest) : Decodes bytes i rest := by
  cases bytes with
  | nil => cases h
  | cons op tl =>
    simp only [decode] at h
    split at h
    case h_1 hf => cases h; exact .plain hf
    case h_2 hf =>
      split at h <;> cases h
      exact .imm8 hf
    case h_3 hf =>
      split at h <;> cases h
      exact .imm16 hf
    case h_4 hf => cases h; exact .skip hf
    case h_5 hf =>
      split at h <;> cases h
      · exact .cb hf
      · exact .lonePrefix hf

theorem Decodes.decode_eq (h : Decodes bytes i rest) : decode bytes = .ok i rest := by
  cases h with
  | plain hf | imm8 hf | imm16 hf | skip hf | cb hf | lonePrefix hf => simp only [decode, hf]

theorem decode_eq_ok_iff : decode bytes = .ok i rest ↔ Decodes bytes i rest := ⟨decodes_of_decode, Decodes.decode_eq⟩

/-- An immediate word is fetched low byte first (30_encoding.md R150). -/
theorem Decodes.immWord {op : Byte} {f : Word → Instr} (h : opForm op = .imm16 f) (w : Word) (rest : List Byte) :
    Decodes (op :: loByte w :: hiByte w :: rest) (f w) rest := by
  have hd : Decodes (op :: loByte w :: hiByte w :: rest) (f (join (hiByte w) (loByte w))) rest := .imm16 h
  rwa [join_hiByte_loByte] at hd

/-! ### The second byte of a prefixed instruction -/

/-- The prefixed instruction with the fields `x` and `y` and the operand `r` (30_encoding.md R155). -/
def cbOf (x y : Nat) (r : Operand) : Instr :=
  match x with
  | 0 => rotOf y r
  | 1 => bitOf y r
  | 2 => resOf y r
  | _ => setOf y r

theorem cbInstr_eq_cbOf (op2 : Byte) : cbInstr op2 = cbOf (fieldX op2) (fieldY op2) (operandOf (fieldZ op2)) := rfl

theorem operandCode_lt (r : Operand) : (operandCode r).toNat < 8 := by
  rcases r with r | _
  · cases r <;> decide
  · decide

theorem operandOf_operandCode (r : Operand) : operandOf (operandCode r).toNat = r := by
  rcases r with r | _
  · cases r <;> rfl
  · rfl

/-- The operand's code fills the three free bits: it is added. -/
theorem or_operandCode_toNat {k : Byte} (h : fieldZ k = 0) (r : Operand) :
    (k ||| operandCode r).toNat = k.toNat + (operandCode r).toNat := by
  have hk : k.toNat = 2 ^ 3 * (k.toNat / 8) := by unfold fieldZ at h; omega
  rw [BitVec.toNat_or, hk, ← Nat.two_pow_add_eq_or_of_lt (operandCode_lt r)]

theorem cbInstr_or_operandCode {k : Byte} (h : fieldZ k = 0) (r : Operand) :
    cbInstr (k ||| operandCode r) = cbOf (fieldX k) (fieldY k) r := by
  have hn := or_operandCode_toNat h r
  have hr := operandCode_lt r
  have hx : fieldX (k ||| operandCode r) = fieldX k := by unfold fieldX fieldZ at *; omega
  have hy : fieldY (k ||| operandCode r) = fieldY k := by unfold fieldY fieldZ at *; omega
  have hz : fieldZ (k ||| operandCode r) = (operandCode r).toNat := by unfold fieldZ at *; omega
  rw [cbInstr_eq_cbOf, hx, hy, hz, operandOf_operandCode]

theorem Decodes.prefixed {k : Byte} (h : fieldZ k = 0) (r : Operand) (rest : List Byte) :
    Decodes (0xCB#8 :: (k ||| operandCode r) :: rest) (cbOf (fieldX k) (fieldY k) r) rest := by
  rw [← cbInstr_or_operandCode h r]
  exact .cb rfl

/-- Row by row, for every value of the three fields (30_encoding.md R155). -/
theorem encode_cbOf {x y z : Nat} (hx : x < 4) (hy : y < 8) (hz : z < 8) :
    encode (cbOf x y (operandOf z)) = [0xCB#8, opByte x y z] := by
  interval_cases x <;> interval_cases y <;> interval_cases z <;> rfl

theorem encode_cbInstr (op2 : Byte) : encode (cbInstr op2) = [0xCB#8, op2] := by
  rw [cbInstr_eq_cbOf, encode_cbOf (fieldX_lt op2) (fieldY_lt op2) (fieldZ_lt op2), opByte_fields]

/-! ### The opcode table -/

/-- What the encoder gives an instruction of this form for the opcode `op`, with the immediate byte `v` or the immediate
word `w` (30_encoding.md R143). -/
def formEncodes (op v : Byte) (w : Word) : OpForm → Prop
  | .plain i => encode i = [op]
  | .imm8 f => encode (f v) = [op, v]
  | .imm16 f => encode (f w) = [op, loByte w, hiByte w]
  | .skip i => (op, i) = (0x10#8, .stop)
  | .cb => op = 0xCB#8

/-- Row by row, for every value of the three fields: the decoder's table is the encoder's (30_encoding.md R151 to R154). -/
theorem opForm_opByte_encodes {x y z : Nat} (hx : x < 4) (hy : y < 8) (hz : z < 8) (v : Byte) (w : Word) :
    formEncodes (opByte x y z) v w (opForm (opByte x y z)) := by
  interval_cases x <;> interval_cases y <;> interval_cases z <;> rfl

theorem opForm_encodes (op v : Byte) (w : Word) : formEncodes op v w (opForm op) := by
  have h := opForm_opByte_encodes (fieldX_lt op) (fieldY_lt op) (fieldZ_lt op) v w
  rwa [opByte_fields] at h

theorem formEncodes_of_opForm {op : Byte} {F : OpForm} (h : opForm op = F) (v : Byte) (w : Word) :
    formEncodes op v w F := h ▸ opForm_encodes op v w

theorem encode_of_plain {op : Byte} {i : Instr} (h : opForm op = .plain i) : encode i = [op] :=
  formEncodes_of_opForm h 0 0

theorem encode_of_imm8 {op : Byte} {f : Byte → Instr} (h : opForm op = .imm8 f) (v : Byte) : encode (f v) = [op, v] :=
  formEncodes_of_opForm h v 0

theorem encode_of_imm16 {op : Byte} {f : Word → Instr} (h : opForm op = .imm16 f) (hi lo : Byte) :
    encode (f (join hi lo)) = [op, lo, hi] := by
  have he : encode (f (join hi lo)) = [op, loByte (join hi lo), hiByte (join hi lo)] := formEncodes_of_opForm h 0 _
  rwa [loByte_join, hiByte_join] at he

theorem opcode_of_skip {op : Byte} {i : Instr} (h : opForm op = .skip i) : op = 0x10#8 ∧ i = .stop :=
  Prod.mk.inj (formEncodes_of_opForm h 0 0)

theorem opcode_of_cb {op : Byte} (h : opForm op = .cb) : op = 0xCB#8 := formEncodes_of_opForm h 0 0

/-- The one byte no encoding fixes is the one `STOP` skips (30_encoding.md R143). -/
theorem Decodes.encode_append (h : Decodes bytes i rest) (hw : wellFormed i = true) :
    bytes = encode i ++ rest ∨ i = .stop ∧ ∃ tl, bytes = 0x10#8 :: tl ∧ rest = tl.tail := by
  cases h with
  | plain hf => exact .inl (by rw [encode_of_plain hf]; rfl)
  | imm8 hf => exact .inl (by rw [encode_of_imm8 hf]; rfl)
  | imm16 hf => exact .inl (by rw [encode_of_imm16 hf]; rfl)
  | skip hf =>
    obtain ⟨rfl, rfl⟩ := opcode_of_skip hf
    exact .inr ⟨rfl, _, rfl, rfl⟩
  | cb hf => exact .inl (by rw [encode_cbInstr, opcode_of_cb hf]; rfl)
  | lonePrefix => exact absurd hw (by decide)

/-- The number of bytes an opcode of this form takes with what follows it, the byte that `STOP` skips included. -/
def formLength : OpForm → Nat
  | .plain _ => 1
  | .imm8 _ | .skip _ | .cb => 2
  | .imm16 _ => 3

/-- The lengths of 30_encoding.md R157, for each of the 256 first bytes. -/
theorem formLength_opForm : ∀ op : Byte, formLength (opForm op) =
    if op ∈ Family.threeByteOpcodes then 3 else if op ∈ Family.twoByteOpcodes then 2 else 1 := by
  decide

/-- An opcode decodes once the bytes its form takes are there. -/
theorem decodes_of_formLength {op : Byte} {bs : List Byte} (h : bs.length + 1 = formLength (opForm op))
    (rest : List Byte) : ∃ i, Decodes (op :: bs ++ rest) i rest := by
  cases hf : opForm op with rw [hf, formLength, Nat.succ_inj] at h
  | plain i =>
    obtain rfl := List.eq_nil_of_length_eq_zero h
    exact ⟨i, .plain hf⟩
  | imm8 f =>
    obtain ⟨v, rfl⟩ := List.length_eq_one_iff.mp h
    exact ⟨f v, .imm8 hf⟩
  | imm16 f =>
    obtain ⟨lo, hi, rfl⟩ := List.length_eq_two.mp h
    exact ⟨f (join hi lo), .imm16 hf⟩
  | skip i =>
    obtain ⟨v, rfl⟩ := List.length_eq_one_iff.mp h
    exact ⟨i, .skip hf⟩
  | cb =>
    obtain ⟨op2, rfl⟩ := List.length_eq_one_iff.mp h
    exact ⟨cbInstr op2, .cb hf⟩

theorem twoByteOpcodes_not_threeByte : ∀ op ∈ Family.twoByteOpcodes, op ∉ Family.threeByteOpcodes := by decide

/-! ### The statements -/

/-- Every well-formed instruction is what its form of opcode gives: alone, with a byte, with a word, or after
`0xCB`. -/
theorem decodes_encode (h : wellFormed i = true) (rest : List Byte) : Decodes (encode i ++ rest) i rest := by
  cases i with
  | prefixCb => exact absurd h (by decide)
  | stop => exact .skip rfl
  | ldBImm v | ldCImm v | ldDImm v | ldEImm v | ldHImm v | ldLImm v | ldIndHLImm v | ldAImm v
  | jr v | jrNZ v | jrZ v | jrNC v | jrC v | ldhIndA8A v | ldhAIndA8 v | addSPImm v | ldHLSPImm v
  | addAImm v | adcAImm v | subImm v | sbcAImm v | andImm v | xorImm v | orImm v | cpImm v => exact .imm8 rfl
  | ldBCImm w | ldDEImm w | ldHLImm w | ldSPImm w | ldIndA16SP w | ldIndA16A w | ldAIndA16 w
  | jp w | jpNZ w | jpZ w | jpNC w | jpC w | call w | callNZ w | callZ w | callNC w | callC w => exact .immWord rfl w rest
  | rlc r | rrc r | rl r | rr r | sla r | sra r | swap r | srl r
  | bit0 r | bit1 r | bit2 r | bit3 r | bit4 r | bit5 r | bit6 r | bit7 r
  | res0 r | res1 r | res2 r | res3 r | res4 r | res5 r | res6 r | res7 r
  | set0 r | set1 r | set2 r | set3 r | set4 r | set5 r | set6 r | set7 r => exact .prefixed rfl r rest
  | _ => exact .plain rfl

/-- Settles O1, by the rule of each form. -/
theorem decodeOfEncodeIsTheInstruction : Obligations.DecodeOfEncodeIsTheInstruction := by
  intro i rest h
  exact (decodes_encode h rest).decode_eq

/-- Settles O2: the rule that read the bytes names their opcode, and the encoder's row for it is the decoder's. -/
theorem encodeOfDecodeIsTheBytes : Obligations.EncodeOfDecodeIsTheBytes := by
  intro bytes rest i h hw
  obtain hb | ⟨hstop, tl, rfl, rfl⟩ := (decodes_of_decode h).encode_append hw
  · refine ⟨fun _ => hb, ?_⟩
    rintro rfl
    subst hb
    exact ⟨rfl, rfl⟩
  · exact ⟨fun hs => absurd hstop hs, fun _ => ⟨List.drop_one.symm, rfl⟩⟩

/-- Settles O3: the table of forms has the lengths of R157, and each form decodes once its bytes are there. -/
theorem firstByteGivesTheLength : Obligations.FirstByteGivesTheLength := by
  intro op a b rest
  have hl := formLength_opForm op
  simp only [decode_eq_ok_iff]
  refine ⟨fun h3 => ?_, fun h2 => ?_, fun h3 h2 => ?_⟩
  · rw [if_pos h3] at hl
    exact decodes_of_formLength (bs := [a, b]) hl.symm rest
  · rw [if_neg (twoByteOpcodes_not_threeByte op h2), if_pos h2] at hl
    exact decodes_of_formLength (bs := [a]) hl.symm rest
  · rw [if_neg h3, if_neg h2] at hl
    exact decodes_of_formLength (bs := []) hl.symm rest

/-- Settles O4, by running the decoder on each word. -/
theorem tableWordsDecode : Obligations.TableWordsDecode := by
  unfold Obligations.TableWordsDecode
  decide

end Sys2Proof.Machine
end

section
/-! SUPPORT. The 8-bit loads (40_load8.md R170 to R189): what each form runs, its encoding, and the cost it gives. -/

namespace Sys2Proof.Machine

open Sys2Proof.Family

/-! ### Encoding and cost -/

/-- Only `STOP` has a byte that is not fetched, so any other instruction costs its bytes and what it runs. -/
theorem fits_of_encode {i : Instr} {bytes : List Byte} {d n : Int} {s t : State} (hs : i ≠ .stop)
    (he : encode i = bytes) (hc : t.cc = s.cc + d) (hn : n = 4 * (bytes.length : Int) + d) : fits i bytes n s t := by
  have hf : fetches i = (bytes.length : Int) := by rw [fetches, if_neg hs, he]
  refine ⟨he, ?_⟩
  rw [hf, hc, hn]
  omega

/-- The encoder's immediate word is the one written on naturals (30_encoding.md R143). -/
theorem immBytes_eq (w : Word) : immBytes w = [loByte w, hiByte w] := by
  simp only [immBytes, ← loByte_toNat, ← hiByte_toNat, BitVec.ofNat_toNat, BitVec.setWidth_eq]

theorem encode_ldRegReg (dst src : Reg8) :
    encode (ldRegReg dst src) = [Family.opByte 1 (regCode dst) (regCode src)] := by
  cases dst <;> cases src <;> rfl

theorem encode_ldRegImm (r : Reg8) (v : Byte) : encode (ldRegImm r v) = [Family.opByte 0 (regCode r) 6, v] := by
  cases r <;> rfl

theorem encode_ldRegInd (r : Reg8) : encode (ldRegInd r) = [Family.opByte 1 (regCode r) 6] := by
  cases r <;> rfl

theorem encode_ldIndReg (r : Reg8) : encode (ldIndReg r) = [Family.opByte 1 6 (regCode r)] := by
  cases r <;> rfl

theorem encode_loadA (m : LoadA) : encode (loadA m) = m.loadBytes := by
  cases m with
  | indBC | indDE | high _ | highC => rfl
  | abs a => exact congrArg (List.cons 0xFA#8) (immBytes_eq a).symm

theorem encode_storeA (m : LoadA) : encode (storeA m) = m.storeBytes := by
  cases m with
  | indBC | indDE | high _ | highC => rfl
  | abs a => exact congrArg (List.cons 0xEA#8) (immBytes_eq a).symm

/-! ### What each form runs -/

theorem exec_ldRegReg (dst src : Reg8) (s : State) :
    exec (ldRegReg dst src) s = .next (s.setReg8 dst (s.reg8 src)) := by
  cases dst <;> cases src <;> rfl

theorem exec_ldRegImm (r : Reg8) (v : Byte) (s : State) : exec (ldRegImm r v) s = .next (s.setReg8 r v) := by
  cases r <;> rfl

theorem exec_ldRegInd (r : Reg8) (s : State) : exec (ldRegInd r) s = .next (s.loadReg r (s.reg16 .hl)) := by
  cases r <;> rfl

theorem exec_loadA (m : LoadA) (s : State) : exec (loadA m) s = .next (s.loadReg .a (m.address s)) := by
  cases m with
  | indBC | indDE | abs _ => rfl
  | high v => exact congrArg (fun w => Host.Outcome.next (s.loadReg .a w)) (highPage_eq v)
  | highC => exact congrArg (fun w => Host.Outcome.next (s.loadReg .a w)) (highPage_eq s.cpu.c)

@[simp] theorem loadReg_cc (r : Reg8) (a : Word) (s : State) : (s.loadReg r a).cc = s.cc + 4 := by
  rw [State.loadReg, State.setReg8_cc, memRead_cc]

@[simp] theorem stepHL_cc (d : Word) (s : State) : (s.stepHL d).cc = s.cc := State.setReg16_cc .hl _ s

/-- The access of a load changes nothing of the CPU but the destination. -/
theorem loadReg_a_eq (a : Word) (s : State) :
    s.loadReg .a a = { (s.memRead a).2 with cpu := { s.cpu with a := (s.memRead a).1 } } := by
  simp only [State.loadReg, State.setReg8, memRead_cpu]

/-- `HL` steps from its value before an access that leaves it alone (40_load8.md R179 to R182). -/
theorem stepHL_eq {s t : State} (h : t.reg16 .hl = s.reg16 .hl) (d : Word) :
    t.stepHL d = t.setReg16 .hl (s.reg16 .hl + d) := by
  rw [State.stepHL, h]

theorem loadReg_a_hl (a : Word) (s : State) : (s.loadReg .a a).reg16 .hl = s.reg16 .hl := by
  rw [loadReg_a_eq]
  rfl

theorem memWrite_reg16 (a : Word) (v : Byte) (r : Reg16) (s : State) : (s.memWrite a v).reg16 r = s.reg16 r := by
  cases r <;> simp only [State.reg16, memWrite_cpu]

theorem loadReg_a_stepHL (a d : Word) (s : State) : (s.loadReg .a a).stepHL d =
    ({ (s.memRead a).2 with cpu := { s.cpu with a := (s.memRead a).1 } }).setReg16 .hl (s.reg16 .hl + d) := by
  rw [stepHL_eq (loadReg_a_hl a s), loadReg_a_eq]

theorem memWrite_stepHL (a : Word) (v : Byte) (d : Word) (s : State) :
    (s.memWrite a v).stepHL d = (s.memWrite a v).setReg16 .hl (s.reg16 .hl + d) :=
  stepHL_eq (memWrite_reg16 a v .hl s) d

/-! ### The statements -/

/-- Settles O10: one register write, which takes no cycle of its own. -/
theorem loadRegisterFromRegisterOrImmediate : Obligations.LoadRegisterFromRegisterOrImmediate := by
  intro dst src v s
  have hcc (w : Byte) : (s.setReg8 dst w).cc = s.cc + 0 := by rw [State.setReg8_cc, add_zero]
  constructor
  · exact ⟨_, exec_ldRegReg dst src s, rfl,
      fits_of_encode (by cases dst <;> cases src <;> nofun) (encode_ldRegReg dst src) (hcc _) rfl⟩
  · exact ⟨_, exec_ldRegImm dst v s, rfl,
      fits_of_encode (by cases dst <;> nofun) (encode_ldRegImm dst v) (hcc v) rfl⟩

/-- Settles O11: each form is one read at the address of the state before; in the stepping forms `HL` moves
after it. -/
theorem loadRegisterFromMemory : Obligations.LoadRegisterFromMemory := by
  intro r m s
  have hcc (d : Word) : ((s.loadReg .a (s.reg16 .hl)).stepHL d).cc = s.cc + 4 := by rw [stepHL_cc, loadReg_cc]
  refine ⟨?ind, ?fromA, ?inc, ?dec⟩
  case ind =>
    exact ⟨_, exec_ldRegInd r s, rfl,
      fits_of_encode (by cases r <;> nofun) (encode_ldRegInd r) (loadReg_cc _ _ s) rfl⟩
  case fromA =>
    exact ⟨_, exec_loadA m s, loadReg_a_eq _ s,
      fits_of_encode (by cases m <;> nofun) (encode_loadA m) (loadReg_cc _ _ s) (by cases m <;> rfl)⟩
  case inc =>
    exact ⟨_, rfl, loadReg_a_stepHL _ 1 s, fits_of_encode nofun rfl (hcc 1) rfl⟩
  case dec =>
    refine ⟨_, rfl, ?_, fits_of_encode nofun rfl (hcc (-1)) rfl⟩
    rw [sub_eq_add_neg]
    exact loadReg_a_stepHL _ (-1) s

/-- Settles O12: each form is one write at the address of the state before; in the stepping forms `HL` moves
after it. -/
theorem storeRegisterToMemory : Obligations.StoreRegisterToMemory := by
  intro r m v s
  have hcc (d : Word) : ((s.memWrite (s.reg16 .hl) s.cpu.a).stepHL d).cc = s.cc + 4 := by rw [stepHL_cc, memWrite_cc]
  refine ⟨?reg, ?imm, ?fromA, ?inc, ?dec⟩
  case reg =>
    exact ⟨_, exec_ldIndReg r s, rfl,
      fits_of_encode (by cases r <;> nofun) (encode_ldIndReg r) (memWrite_cc _ _ s) rfl⟩
  case imm =>
    exact ⟨_, rfl, rfl, fits_of_encode nofun rfl (memWrite_cc _ v s) rfl⟩
  case fromA =>
    exact ⟨_, exec_storeA m s, rfl,
      fits_of_encode (by cases m <;> nofun) (encode_storeA m) (memWrite_cc _ _ s) (by cases m <;> rfl)⟩
  case inc =>
    exact ⟨_, rfl, memWrite_stepHL _ _ 1 s, fits_of_encode nofun rfl (hcc 1) rfl⟩
  case dec =>
    refine ⟨_, rfl, ?_, fits_of_encode nofun rfl (hcc (-1)) rfl⟩
    rw [sub_eq_add_neg]
    exact memWrite_stepHL _ _ (-1) s

end Sys2Proof.Machine
end

section
/-! SUPPORT. The 16-bit loads and the stack (41_load16_stack.md R200 to R209): what each form runs, its encoding, and
the cost it gives. -/

namespace Sys2Proof.Machine

open Sys2Proof.Family

/-! ### Flags and displacements as numbers -/

theorem packF_masked_eq (z n h c : Bool) : packF z n h c &&& 0xF0#8 = flagByte z n h c := by
  revert z n h c
  decide

/-- The four flags are the whole of `F` (10_state.md R26). -/
theorem setFlags_eq (z n h c : Bool) (s : State) :
    s.setFlags z n h c = { s with cpu := { s.cpu with f := flagByte z n h c } } := by
  rw [State.setFlags, State.setF, packF_masked_eq]

/-- A byte as a signed number (30_encoding.md R150). -/
theorem byte_toInt (e : Byte) : e.toInt = if 128 ≤ e.toNat then (e.toNat : Int) - 256 else e.toNat := by
  rw [BitVec.toInt_eq_toNat_cond]
  split_ifs <;> omega

/-- The machine adds the sign-extended byte, the spec the signed number. -/
theorem add_sext16_eq (w : Word) (e : Byte) : w + sext16 e = displaced w e := by
  rw [displaced, ← byte_toInt, BitVec.ofInt_add, BitVec.ofInt_natCast, BitVec.ofNat_toNat, BitVec.setWidth_eq]
  rfl

/-! ### Encoding -/

theorem encode_ldPairImm (p : Rp) (v : Word) :
    encode (ldPairImm p v) = Family.opByte 0 (2 * p.code) 1 :: immBytes v := by
  rw [immBytes_eq]
  cases p <;> rfl

theorem encode_ldIndA16SP (a : Word) : encode (.ldIndA16SP a) = 0x08 :: immBytes a := by
  rw [immBytes_eq]
  rfl

theorem encode_push (p : Rp2) : encode (push p) = [Family.opByte 3 (2 * p.code) 5] := by
  cases p <;> rfl

theorem encode_pop (p : Rp2) : encode (pop p) = [Family.opByte 3 (2 * p.code) 1] := by
  cases p <;> rfl

/-! ### What each form runs -/

theorem exec_ldPairImm (p : Rp) (v : Word) (s : State) :
    exec (ldPairImm p v) s = .next (s.setReg16 p.pair v) := by
  cases p <;> rfl

/-- The write of the low byte leaves `SP`, so the high byte is the one from before it (R201). -/
theorem storeSp_eq (a : Word) (s : State) :
    s.storeSp a = (s.memWrite a (loByte s.cpu.sp)).memWrite (a + 1) (hiByte s.cpu.sp) := by
  rw [State.storeSp, memWrite_cpu]

/-- The internal cycle comes after the sum, and neither reads the other's registers (R203). -/
theorem spPlus_eq (e : Byte) (s : State) : s.spPlus e =
    ({ s with cc := s.cc + 4, cpu := { s.cpu with
        f := flagByte false false (15 < s.cpu.sp.toNat % 16 + e.toNat % 16) (255 < s.cpu.sp.toNat % 256 + e.toNat) }
      }).setReg16 .hl (displaced s.cpu.sp e) := by
  rw [State.spPlus, State.spFlags, setFlags_eq, add_sext16_eq]
  rfl

theorem exec_push (p : Rp2) (s : State) : exec (push p) s = .next (s.tick.push16 (s.reg16 p.pair)) := by
  cases p <;> rfl

theorem exec_pop (p : Rp2) (s : State) : exec (pop p) s = .next (s.pop16.2.setReg16 p.pair s.pop16.1) := by
  cases p <;> rfl

/-! ### Cost -/

@[simp] theorem storeSp_cc (a : Word) (s : State) : (s.storeSp a).cc = s.cc + 8 := by
  rw [storeSp_eq, memWrite_cc, memWrite_cc]
  omega

@[simp] theorem spPlus_cc (e : Byte) (s : State) : (s.spPlus e).cc = s.cc + 4 := by
  rw [spPlus_eq, State.setReg16_cc]

@[simp] theorem push16_cc (w : Word) (s : State) : (s.push16 w).cc = s.cc + 8 := by
  simp only [push16_eq, memWrite_cc]
  omega

@[simp] theorem pop16_cc (s : State) : s.pop16.2.cc = s.cc + 8 := by
  simp only [pop16_eq, memRead_cc]
  omega

/-! ### The statements -/

/-- Settles O14: each form by its equation; the sum by the flags and the displacement as numbers. -/
theorem loadPairsAndStackPointer : Obligations.LoadPairsAndStackPointer := by
  intro p v a e s
  refine ⟨?pairImm, ?storeSp, ?spHL, ?spPlus⟩
  case pairImm =>
    have hcc : (s.setReg16 p.pair v).cc = s.cc + 0 := by rw [State.setReg16_cc, add_zero]
    exact ⟨_, exec_ldPairImm p v s, rfl,
      fits_of_encode (by cases p <;> nofun) (encode_ldPairImm p v) hcc rfl⟩
  case storeSp =>
    exact ⟨_, rfl, storeSp_eq a s, fits_of_encode nofun (encode_ldIndA16SP a) (storeSp_cc a s) rfl⟩
  case spHL =>
    exact ⟨(s.setSp (s.reg16 .hl)).tick, rfl, rfl, fits_of_encode nofun rfl (State.tick_cc _) rfl⟩
  case spPlus =>
    exact ⟨_, rfl, spPlus_eq e s, fits_of_encode nofun rfl (spPlus_cc e s) rfl⟩

/-- Settles O15: a push is an internal cycle and two writes, a pop two reads and the write of the pair. -/
theorem pushAndPop : Obligations.PushAndPop := by
  intro p s
  constructor
  · have hcc : (s.tick.push16 (s.reg16 p.pair)).cc = s.cc + 12 := by
      rw [push16_cc, State.tick_cc]
      omega
    exact ⟨_, exec_push p s, rfl, fits_of_encode (by cases p <;> nofun) (encode_push p) hcc rfl⟩
  · have hcc : (s.pop16.2.setReg16 p.pair s.pop16.1).cc = s.cc + 8 := by rw [State.setReg16_cc, pop16_cc]
    exact ⟨_, exec_pop p s, rfl, fits_of_encode (by cases p <;> nofun) (encode_pop p) hcc rfl⟩

end Sys2Proof.Machine
end

section
/-! SUPPORT. The accumulator operations and the operations on the carry flag (42_alu8.md R220 to R228, R234 to R237):
what each form runs, its encoding and cost, and its result and flags on numbers. -/

namespace Sys2Proof.Machine

open Sys2Proof.Family

/-- An instruction that takes no time beyond its fetches costs 4 for each byte. -/
theorem fits_of_encode_of_cc_eq {i : Instr} {bytes : List Byte} {n : Int} {s t : State} (hs : i ≠ .stop)
    (he : encode i = bytes) (hc : t.cc = s.cc) (hn : n = 4 * (bytes.length : Int)) : fits i bytes n s t :=
  fits_of_encode hs he (hc.trans (add_zero _).symm) (hn.trans (add_zero _).symm)

/-! ### The accumulator operations, for every source form -/

/-- What the field `alu` selects (30_encoding.md R148). -/
def aluRun (op : AluOp) : Byte → State → State :=
  match op with
  | .add => State.aluAdd
  | .adc => State.aluAdc
  | .sub => State.aluSub
  | .sbc => State.aluSbc
  | .and => State.aluAnd
  | .xor => State.aluXor
  | .or => State.aluOr
  | .cp => State.aluCp

theorem exec_alu (op : AluOp) (src : Source) (s : State) :
    exec (alu op src) s = .next (aluRun op (src.read s).1 (src.read s).2) := by
  cases src with
  | reg r => cases op <;> cases r <;> rfl
  | indHL | imm _ => cases op <;> rfl

theorem encode_alu (op : AluOp) (src : Source) : encode (alu op src) = src.bytes op := by
  cases src with
  | reg r => cases op <;> cases r <;> rfl
  | indHL | imm _ => cases op <;> rfl

theorem alu_ne_stop (op : AluOp) (src : Source) : alu op src ≠ .stop := by
  cases src with
  | reg r => cases op <;> cases r <;> nofun
  | indHL | imm _ => cases op <;> nofun

@[simp] theorem source_read_cpu (src : Source) (s : State) : (src.read s).2.cpu = s.cpu := by
  cases src with
  | reg _ | imm _ => rfl
  | indHL => exact memRead_cpu _ s

/-- Beyond the fetches only `(HL)` takes time (R220). -/
theorem source_read_cc (src : Source) (op : AluOp) (s : State) :
    (src.read s).2.cc = s.cc + (src.cycles - 4 * ((src.bytes op).length : Int)) := by
  cases src with
  | reg _ | imm _ => exact (add_zero s.cc).symm
  | indHL => exact memRead_cc _ s

/-- An operation that takes no time after its read does what `op` does to the byte read, in every source form. -/
theorem alu_completes {op : AluOp} {src : Source} {s t : State}
    (hrun : aluRun op (src.read s).1 (src.read s).2 = t) (hcc : t.cc = (src.read s).2.cc) :
    ∃ u, exec (alu op src) s = .next u ∧ u = t ∧ fits (alu op src) (src.bytes op) src.cycles s u := by
  refine ⟨_, exec_alu op src s, hrun, ?_⟩
  rw [hrun]
  exact fits_of_encode (alu_ne_stop op src) (encode_alu op src) (hcc.trans (source_read_cc src op s)) (by omega)

/-! ### Results and flags on numbers -/

theorem ofNat_eq_zero_iff (n : Nat) : BitVec.ofNat 8 n = 0 ↔ n % 256 = 0 := by
  rw [← BitVec.toNat_inj, BitVec.toNat_ofNat]
  rfl

theorem ofInt_eq_zero_iff (i : Int) : BitVec.ofInt 8 i = 0 ↔ i % 256 = 0 := by
  rw [← BitVec.toNat_inj, BitVec.toNat_ofInt]
  show (i % 256).toNat = 0 ↔ _
  omega

theorem carryByte_toNat (c : Bool) : (carryByte c).toNat = c.toNat := by
  cases c <;> rfl

theorem add_carryByte_eq (a v : Byte) (c : Bool) :
    a + v + carryByte c = BitVec.ofNat 8 (a.toNat + v.toNat + c.toNat) := by
  rw [← carryByte_toNat, BitVec.ofNat_add, BitVec.ofNat_add]
  simp only [BitVec.ofNat_toNat, BitVec.setWidth_eq]

theorem sub_carryByte_eq (a v : Byte) (c : Bool) :
    a - v - carryByte c = BitVec.ofInt 8 ((a.toNat : Int) - v.toNat - c.toNat) := by
  have hc := carryByte_toNat c
  apply BitVec.eq_of_toNat_eq
  rw [BitVec.toNat_ofInt]
  bv_omega

/-- `Z` after a subtraction without borrow compares the operands (R223, R228). -/
theorem diff_mod_eq_zero_iff (a v : Byte) : ((a.toNat : Int) - v.toNat) % 256 = 0 ↔ a.toNat = v.toNat := by
  have ha := a.isLt
  have hv := v.isLt
  omega

theorem addA_eq (v : Byte) (c : Bool) (s : State) :
    s.addA v c = { s with cpu := { s.cpu with
      a := BitVec.ofNat 8 (s.cpu.a.toNat + v.toNat + c.toNat)
      f := flagByte ((s.cpu.a.toNat + v.toNat + c.toNat) % 256 = 0) false
        (15 < s.cpu.a.toNat % 16 + v.toNat % 16 + c.toNat) (255 < s.cpu.a.toNat + v.toNat + c.toNat) } } := by
  simp only [State.addA, setFlags_eq, add_carryByte_eq, ofNat_eq_zero_iff]
  rfl

theorem compareA_eq (v : Byte) (c : Bool) (s : State) :
    s.compareA v c = { s with cpu := { s.cpu with
      f := flagByte (((s.cpu.a.toNat : Int) - v.toNat - c.toNat) % 256 = 0) true
        (s.cpu.a.toNat % 16 < v.toNat % 16 + c.toNat) (s.cpu.a.toNat < v.toNat + c.toNat) } } := by
  simp only [State.compareA, setFlags_eq, sub_carryByte_eq, ofInt_eq_zero_iff]
  rfl

theorem subA_eq (v : Byte) (c : Bool) (s : State) :
    s.subA v c = { s with cpu := { s.cpu with
      a := BitVec.ofInt 8 ((s.cpu.a.toNat : Int) - v.toNat - c.toNat)
      f := flagByte (((s.cpu.a.toNat : Int) - v.toNat - c.toNat) % 256 = 0) true
        (s.cpu.a.toNat % 16 < v.toNat % 16 + c.toNat) (s.cpu.a.toNat < v.toNat + c.toNat) } } := by
  rw [State.subA, compareA_eq, sub_carryByte_eq]
  rfl

theorem aluAdd_eq (v : Byte) (s : State) :
    s.aluAdd v = { s with cpu := { s.cpu with
      a := BitVec.ofNat 8 (s.cpu.a.toNat + v.toNat)
      f := flagByte ((s.cpu.a.toNat + v.toNat) % 256 = 0) false (15 < s.cpu.a.toNat % 16 + v.toNat % 16)
        (255 < s.cpu.a.toNat + v.toNat) } } :=
  addA_eq v false s

theorem aluSub_eq (v : Byte) (s : State) :
    s.aluSub v = { s with cpu := { s.cpu with
      a := BitVec.ofInt 8 ((s.cpu.a.toNat : Int) - v.toNat)
      f := flagByte (s.cpu.a.toNat = v.toNat) true (s.cpu.a.toNat % 16 < v.toNat % 16)
        (s.cpu.a.toNat < v.toNat) } } := by
  rw [State.aluSub, subA_eq]
  simp only [Bool.toNat_false, Nat.cast_zero, sub_zero, add_zero, diff_mod_eq_zero_iff]

theorem aluCp_eq (v : Byte) (s : State) :
    s.aluCp v = { s with cpu := { s.cpu with
      f := flagByte (s.cpu.a.toNat = v.toNat) true (s.cpu.a.toNat % 16 < v.toNat % 16)
        (s.cpu.a.toNat < v.toNat) } } := by
  rw [State.aluCp, compareA_eq]
  simp only [Bool.toNat_false, Nat.cast_zero, sub_zero, add_zero, diff_mod_eq_zero_iff]

theorem logicA_eq (r : Byte) (h : Bool) (s : State) :
    s.logicA r h = { s with cpu := { s.cpu with a := r, f := flagByte (r = 0) false h false } } := by
  rw [State.logicA, setFlags_eq]
  rfl

theorem byte_not_eq (a : Byte) : ~~~a = BitVec.ofNat 8 (255 - a.toNat) := by
  bv_omega

/-! ### The statements -/

/-- Settles O16: the sum on numbers, with the carry 0 or the one in `F`. -/
theorem addAndAddWithCarry : Obligations.AddAndAddWithCarry := by
  intro src s a m c
  constructor
  · refine alu_completes ?_ rfl
    rw [aluRun, aluAdd_eq, source_read_cpu]
  · refine alu_completes ?_ rfl
    rw [aluRun, State.aluAdc, addA_eq, State.flagC, source_read_cpu]

/-- Settles O17: the difference on unbounded integers, with the borrow 0 or the one in `F`. -/
theorem subtractAndCompare : Obligations.SubtractAndCompare := by
  intro src s a m c
  refine ⟨?sub, ?sbc, ?cp⟩
  case sub =>
    refine alu_completes ?_ rfl
    rw [aluRun, aluSub_eq, source_read_cpu]
  case sbc =>
    refine alu_completes ?_ rfl
    rw [aluRun, State.aluSbc, subA_eq, State.flagC, source_read_cpu]
  case cp =>
    refine alu_completes ?_ rfl
    rw [aluRun, aluCp_eq, source_read_cpu]

/-- Settles O18: the logic operations by their one form, the others by the flags they write. -/
theorem logicAndCarryFlagOperations : Obligations.LogicAndCarryFlagOperations := by
  intro src s a m z c
  refine ⟨?and, ?xor, ?or, ?cpl, ?scf, ?ccf⟩
  case and =>
    refine alu_completes ?_ rfl
    rw [aluRun, State.aluAnd, logicA_eq, source_read_cpu]
  case xor =>
    have hz : a = m ↔ a ^^^ m = 0 := BitVec.xor_eq_zero_iff.symm
    refine alu_completes ?_ rfl
    rw [aluRun, State.aluXor, logicA_eq, source_read_cpu, decide_eq_decide.mpr hz]
  case or =>
    have hz : a = 0 ∧ m = 0 ↔ a ||| m = 0 := BitVec.or_eq_zero_iff.symm
    refine alu_completes ?_ rfl
    rw [aluRun, State.aluOr, logicA_eq, source_read_cpu, decide_eq_decide.mpr hz]
  case cpl =>
    refine ⟨_, rfl, ?_, fits_of_encode_of_cc_eq nofun rfl rfl rfl⟩
    rw [setFlags_eq, byte_not_eq]
    rfl
  case scf =>
    exact ⟨_, rfl, setFlags_eq z false false true s, fits_of_encode_of_cc_eq nofun rfl rfl rfl⟩
  case ccf =>
    exact ⟨_, rfl, setFlags_eq z false false (!c) s, fits_of_encode_of_cc_eq nofun rfl rfl rfl⟩

end Sys2Proof.Machine
end

section
/-! SUPPORT. The increments and decrements (42_alu8.md R229 to R232). -/

namespace Sys2Proof.Machine

open Sys2Proof.Family

theorem encode_incReg (r : Reg8) : encode (incReg r) = [opByte 0 (regCode r) 4] := by
  cases r <;> rfl

theorem encode_decReg (r : Reg8) : encode (decReg r) = [opByte 0 (regCode r) 5] := by
  cases r <;> rfl

theorem exec_incReg (r : Reg8) (s : State) : exec (incReg r) s = .next (s.incReg r) := by
  cases r <;> rfl

theorem exec_decReg (r : Reg8) (s : State) : exec (decReg r) s = .next (s.decReg r) := by
  cases r <;> rfl

theorem byte_add_one_eq (m : Byte) : m + 1 = BitVec.ofNat 8 (m.toNat + 1) := (modify_inc_value m false).symm

theorem byte_sub_one_eq (m : Byte) : m - 1 = BitVec.ofInt 8 ((m.toNat : Int) - 1) := by
  apply BitVec.eq_of_toNat_eq
  rw [BitVec.toNat_ofInt]
  bv_omega

theorem incFlags_eq (m : Byte) (s : State) :
    s.incFlags m = { s with cpu := { s.cpu with
      f := flagByte (m.toNat = 255) false (m.toNat % 16 = 15) (s.cpu.f.getLsbD 4) } } := by
  have hz : m + 1 = 0 ↔ m.toNat = 255 := by bv_omega
  simp only [State.incFlags, setFlags_eq, hz]
  rfl

theorem decFlags_eq (m : Byte) (s : State) :
    s.decFlags m = { s with cpu := { s.cpu with
      f := flagByte (m.toNat = 1) true (m.toNat % 16 = 0) (s.cpu.f.getLsbD 4) } } := by
  have hz : m - 1 = 0 ↔ m.toNat = 1 := by bv_omega
  simp only [State.decFlags, setFlags_eq, hz]
  rfl

/-- No register is part of `F`, so the flags may be written before the result. -/
theorem incFlags_setReg8 (r : Reg8) (v m : Byte) (s : State) :
    (s.setReg8 r v).incFlags m = (s.incFlags m).setReg8 r v := by
  cases r <;> rfl

theorem decFlags_setReg8 (r : Reg8) (v m : Byte) (s : State) :
    (s.setReg8 r v).decFlags m = (s.decFlags m).setReg8 r v := by
  cases r <;> rfl

theorem incReg_eq (r : Reg8) (s : State) :
    s.incReg r = (s.incFlags (s.reg8 r)).setReg8 r (BitVec.ofNat 8 ((s.reg8 r).toNat + 1)) := by
  rw [State.incReg, incFlags_setReg8, byte_add_one_eq]

theorem decReg_eq (r : Reg8) (s : State) :
    s.decReg r = (s.decFlags (s.reg8 r)).setReg8 r (BitVec.ofInt 8 (((s.reg8 r).toNat : Int) - 1)) := by
  rw [State.decReg, decFlags_setReg8, byte_sub_one_eq]

@[simp] theorem incReg_cc (r : Reg8) (s : State) : (s.incReg r).cc = s.cc := State.setReg8_cc r _ s

@[simp] theorem decReg_cc (r : Reg8) (s : State) : (s.decReg r).cc = s.cc := State.setReg8_cc r _ s

/-- The read and the write leave the CPU, so the carry kept is the one from before them (R230). -/
theorem incMem_eq (s : State) :
    let q := s.memRead (s.reg16 .hl)
    s.incMem = { q.2.memWrite (s.reg16 .hl) (BitVec.ofNat 8 (q.1.toNat + 1)) with
      cpu := { s.cpu with f := flagByte (q.1.toNat = 255) false (q.1.toNat % 16 = 15) (s.cpu.f.getLsbD 4) } } := by
  simp only [State.incMem, incFlags_eq, byte_add_one_eq, memWrite_cpu, memRead_cpu]

theorem decMem_eq (s : State) :
    let q := s.memRead (s.reg16 .hl)
    s.decMem = { q.2.memWrite (s.reg16 .hl) (BitVec.ofInt 8 ((q.1.toNat : Int) - 1)) with
      cpu := { s.cpu with f := flagByte (q.1.toNat = 1) true (q.1.toNat % 16 = 0) (s.cpu.f.getLsbD 4) } } := by
  simp only [State.decMem, decFlags_eq, byte_sub_one_eq, memWrite_cpu, memRead_cpu]

/-! ### The statement -/

/-- Settles O19: the carry is read from `F` and written back; the forms on `(HL)` add one read and one write. -/
theorem incrementAndDecrement : Obligations.IncrementAndDecrement := by
  intro r s v q m c
  have hmem (w : Byte) : (q.2.memWrite (s.reg16 .hl) w).cc = s.cc + 8 := by
    rw [memWrite_cc, memRead_cc]
    omega
  refine ⟨?incReg, ?decReg, ?incMem, ?decMem⟩
  case incReg =>
    exact ⟨_, exec_incReg r s, by rw [incReg_eq, incFlags_eq],
      fits_of_encode_of_cc_eq (by cases r <;> nofun) (encode_incReg r) (incReg_cc r s) rfl⟩
  case decReg =>
    exact ⟨_, exec_decReg r s, by rw [decReg_eq, decFlags_eq],
      fits_of_encode_of_cc_eq (by cases r <;> nofun) (encode_decReg r) (decReg_cc r s) rfl⟩
  case incMem => exact ⟨_, rfl, incMem_eq s, fits_of_encode nofun rfl (hmem _) rfl⟩
  case decMem => exact ⟨_, rfl, decMem_eq s, fits_of_encode nofun rfl (hmem _) rfl⟩

end Sys2Proof.Machine
end

section
/-! SUPPORT. The decimal adjustment (42_alu8.md R233), and what it makes of sums and differences of decimal digits. -/

namespace Sys2Proof.Machine

open Sys2Proof.Family

/-! ### The adjustment on numbers -/

theorem daaAddAdjust_toNat (a : Byte) (h c : Bool) : (daaAddAdjust a h c).toNat =
    (if h ∨ 9 < a.toNat % 16 then 0x06 else 0) + (if c ∨ 0x99 < a.toNat then 0x60 else 0) := by
  rw [daaAddAdjust]
  split_ifs <;> rfl

theorem daaSubAdjust_toNat (h c : Bool) :
    (daaSubAdjust h c).toNat = (if h then 0x06 else 0) + (if c then 0x60 else 0) := by
  cases h <;> cases c <;> rfl

theorem daaStep_fst_lt (a : Nat) (n h c : Bool) : (daaStep a n h c).1 < 256 := by
  cases n <;> exact Nat.mod_lt _ (by decide)

theorem daaResult_toNat (a : Byte) (n h c : Bool) : (daaResult a n h c).toNat = (daaStep a.toNat n h c).1 := by
  have ha := a.isLt
  cases n with
  | false =>
    show (a + daaAddAdjust a h c).toNat = _
    rw [BitVec.toNat_add, daaAddAdjust_toNat, ← Nat.add_assoc]
    rfl
  | true =>
    show (a - daaSubAdjust h c).toNat = (256 + a.toNat - (if h then 0x06 else 0) - (if c then 0x60 else 0)) % 256
    rw [BitVec.toNat_sub, daaSubAdjust_toNat]
    split_ifs <;> omega

theorem daaCarry_eq (a : Byte) (n h c : Bool) : daaCarry a n c = (daaStep a.toNat n h c).2 := by
  cases n with
  | false => rfl
  | true => exact Bool.or_false c

theorem daa_eq (s : State) :
    let r := daaStep s.cpu.a.toNat (s.cpu.f.getLsbD 6) (s.cpu.f.getLsbD 5) (s.cpu.f.getLsbD 4)
    s.daa = { s with cpu := { s.cpu with
      a := BitVec.ofNat 8 r.1
      f := flagByte (r.1 = 0) (s.cpu.f.getLsbD 6) false r.2 } } := by
  intro r
  have hlt : r.1 < 256 := daaStep_fst_lt ..
  have ha : daaResult s.cpu.a s.flagN s.flagH s.flagC = BitVec.ofNat 8 r.1 := by
    apply BitVec.eq_of_toNat_eq
    rw [BitVec.toNat_ofNat, daaResult_toNat, Nat.mod_eq_of_lt hlt]
    rfl
  have hz : r.1 % 256 = 0 ↔ r.1 = 0 := by rw [Nat.mod_eq_of_lt hlt]
  simp only [State.daa, setFlags_eq, ha, daaCarry_eq _ _ s.flagH, ofNat_eq_zero_iff, hz]
  rfl

/-- Settles O20: the machine's adjustment is the rule's on numbers. -/
theorem decimalAdjust : Obligations.DecimalAdjust := fun s =>
  ⟨_, rfl, daa_eq s, fits_of_encode_of_cc_eq nofun rfl rfl rfl⟩

/-! ### Decimal digits -/

/-- The byte whose nibbles are the two decimal digits of `x`, as a number. -/
def decimalByte (x : Nat) : Nat := 16 * (x / 10) + x % 10

theorem decimalByte_eq (x : Nat) : decimalByte x = 16 * (x / 10) + x % 10 := rfl

theorem bcd_eq_some_iff {v : Byte} {x : Nat} : bcd v = some x ↔ x < 100 ∧ v.toNat = decimalByte x := by
  rw [bcd, decimalByte]
  split_ifs with h
  · rw [Option.some.injEq]
    omega
  · refine ⟨nofun, fun ⟨hx, hv⟩ => absurd hv ?_⟩
    omega

theorem bcd_ofNat_decimalByte {x : Nat} (hx : x < 100) : bcd (BitVec.ofNat 8 (decimalByte x)) = some x := by
  refine bcd_eq_some_iff.mpr ⟨hx, ?_⟩
  rw [BitVec.toNat_ofNat, decimalByte]
  omega

/-- After an addition the two tests alone decide which digits are corrected. -/
theorem daaStep_false_eq {a : Nat} {h c : Bool} {lo hi : Prop} [Decidable lo] [Decidable hi]
    (hlo : (h ∨ 9 < a % 16) ↔ lo) (hhi : (c ∨ 0x99 < a) ↔ hi) :
    daaStep a false h c = ((a + (if lo then 0x06 else 0) + (if hi then 0x60 else 0)) % 256, decide hi) := by
  have hcarry : (c || decide (0x99 < a)) = decide hi := by
    rw [← decide_eq_decide.mpr hhi, Bool.decide_or, Bool.decide_eq_true]
  simp only [daaStep, Bool.false_eq_true, if_false, hlo, hhi, hcarry]

/-- The half carry or a low nibble past 9 is a carry of the low digits, the carry or a byte past 0x99 one of the whole
sum. -/
theorem daaStep_sum {x y : Nat} (hx : x < 100) (hy : y < 100) :
    daaStep ((decimalByte x + decimalByte y) % 256) false (15 < decimalByte x % 16 + decimalByte y % 16)
      (255 < decimalByte x + decimalByte y) = (decimalByte ((x + y) % 100), decide (100 ≤ x + y)) := by
  have hX := decimalByte_eq x
  have hY := decimalByte_eq y
  have hlo : (decide (15 < decimalByte x % 16 + decimalByte y % 16) = true ∨
      9 < (decimalByte x + decimalByte y) % 256 % 16) ↔ 10 ≤ x % 10 + y % 10 := by
    rw [decide_eq_true_iff]
    omega
  have hhi : (decide (255 < decimalByte x + decimalByte y) = true ∨
      0x99 < (decimalByte x + decimalByte y) % 256) ↔ 100 ≤ x + y := by
    rw [decide_eq_true_iff]
    omega
  have hS := decimalByte_eq ((x + y) % 100)
  rw [daaStep_false_eq hlo hhi, Prod.mk.injEq]
  refine ⟨?_, rfl⟩
  split_ifs <;> omega

/-- The half borrow and the borrow are those of the digits, so each takes the 6 of its digit back. -/
theorem daaStep_difference {x y : Nat} (hx : x < 100) (hy : y < 100) :
    daaStep (((decimalByte x : Int) - decimalByte y) % 256).toNat true (decimalByte x % 16 < decimalByte y % 16)
      (decimalByte x < decimalByte y) = (decimalByte ((100 + x - y) % 100), decide (x < y)) := by
  have hX := decimalByte_eq x
  have hY := decimalByte_eq y
  have hlo : decimalByte x % 16 < decimalByte y % 16 ↔ x % 10 < y % 10 := by omega
  have hhi : decimalByte x < decimalByte y ↔ x < y := by omega
  have hD := decimalByte_eq ((100 + x - y) % 100)
  simp only [daaStep, if_true, hlo, hhi, decide_eq_true_eq, Prod.mk.injEq]
  refine ⟨?_, trivial⟩
  split_ifs <;> omega

theorem flagByte_getLsbD (z n h c : Bool) : (flagByte z n h c).getLsbD 6 = n ∧ (flagByte z n h c).getLsbD 5 = h ∧
    (flagByte z n h c).getLsbD 4 = c := by
  revert z n h c
  decide

/-- `DAA` after an operation whose byte and flags give `r`. -/
theorem daa_of_flags {s : State} {z n h c : Bool} {x : Nat} {b : Bool} (hf : s.cpu.f = flagByte z n h c)
    (hr : daaStep s.cpu.a.toNat n h c = (decimalByte x, b)) (hx : x < 100) :
    bcd s.daa.cpu.a = some x ∧ s.daa.cpu.f.getLsbD 4 = b := by
  obtain ⟨hn, hh, hc⟩ := flagByte_getLsbD z n h c
  rw [daa_eq, hf, hn, hh, hc, hr]
  exact ⟨bcd_ofNat_decimalByte hx, (flagByte_getLsbD ..).2.2⟩

/-- Settles O21: the flags of the operation are the digits' carries, which `DAA` corrects. -/
theorem decimalAdjustCorrectsSumsAndDifferences : Obligations.DecimalAdjustCorrectsSumsAndDifferences := by
  intro v x y s ha hv
  obtain ⟨hx, ha⟩ := bcd_eq_some_iff.mp ha
  obtain ⟨hy, hv⟩ := bcd_eq_some_iff.mp hv
  constructor
  · refine ⟨s.aluAdd v, _, rfl, rfl, ?_⟩
    rw [aluAdd_eq, ha, hv]
    refine daa_of_flags rfl ?_ (Nat.mod_lt _ (by decide))
    rw [BitVec.toNat_ofNat]
    exact daaStep_sum hx hy
  · refine ⟨s.aluSub v, _, rfl, rfl, ?_⟩
    rw [aluSub_eq, ha, hv]
    refine daa_of_flags rfl ?_ (Nat.mod_lt _ (by decide))
    rw [BitVec.toNat_ofInt]
    exact daaStep_difference hx hy

end Sys2Proof.Machine
end

section
/-! SUPPORT. The 16-bit arithmetic (43_alu16.md R260 to R263): what each form runs, its encoding and cost, and its
result and flags on numbers. -/

namespace Sys2Proof.Machine

open Sys2Proof.Family

/-! ### Encoding, and what each form runs -/

theorem encode_addHL (p : Rp) : encode (addHL p) = [Family.opByte 0 (2 * p.code + 1) 1] := by
  cases p <;> rfl

theorem encode_incPair (p : Rp) : encode (incPair p) = [Family.opByte 0 (2 * p.code) 3] := by
  cases p <;> rfl

theorem encode_decPair (p : Rp) : encode (decPair p) = [Family.opByte 0 (2 * p.code + 1) 3] := by
  cases p <;> rfl

theorem exec_addHL (p : Rp) (s : State) : exec (addHL p) s = .next (s.addHL (s.reg16 p.pair)).tick := by
  cases p <;> rfl

theorem exec_incPair (p : Rp) (s : State) : exec (incPair p) s = .next (s.addPair p.pair 1) := by
  cases p <;> rfl

theorem exec_decPair (p : Rp) (s : State) : exec (decPair p) s = .next (s.addPair p.pair (-1)) := by
  cases p <;> rfl

/-! ### Results and flags on numbers -/

theorem word_add_one_eq (w : Word) : w + 1 = BitVec.ofNat 16 (w.toNat + 1) := BitVec.add_def w 1

theorem word_add_neg_one_eq (w : Word) : w + (-1) = BitVec.ofInt 16 ((w.toNat : Int) - 1) := by
  apply BitVec.eq_of_toNat_eq
  rw [BitVec.toNat_ofInt]
  bv_omega

/-- The internal cycle reads no register and a pair write no counter, so either may come first. -/
theorem setReg16_tick (r : Reg16) (v : Word) (s : State) :
    (s.setReg16 r v).tick = ({ s with cc := s.cc + 4 }).setReg16 r v := by
  cases r <;> rfl

theorem addPair_eq (r : Reg16) (d : Word) (s : State) :
    s.addPair r d = ({ s with cc := s.cc + 4 }).setReg16 r (s.reg16 r + d) := setReg16_tick r _ s

/-- `HL` is not part of `F`, so the flags may be written before the sum; `Z` is written back (R260). -/
theorem addHL_tick_eq (v : Word) (s : State) : (s.addHL v).tick =
    ({ s with cc := s.cc + 4, cpu := { s.cpu with
        f := flagByte (s.cpu.f.getLsbD 7) false (4095 < (s.reg16 .hl).toNat % 4096 + v.toNat % 4096)
          (65535 < (s.reg16 .hl).toNat + v.toNat) } }).setReg16 .hl
      (BitVec.ofNat 16 ((s.reg16 .hl).toNat + v.toNat)) := by
  rw [State.addHL, setFlags_eq, BitVec.add_def]
  rfl

/-- The flags are those of the low byte taken as unsigned, the sum is signed (R263). -/
theorem addSp_eq (e : Byte) (s : State) : s.addSp e =
    { s with cc := s.cc + 8, cpu := { s.cpu with
      sp := displaced s.cpu.sp e
      f := flagByte false false (15 < s.cpu.sp.toNat % 16 + e.toNat % 16)
        (255 < s.cpu.sp.toNat % 256 + e.toNat) } } := by
  have hcc : s.cc + 4 + 4 = s.cc + 8 := add_assoc s.cc 4 4
  rw [State.addSp, State.spFlags, setFlags_eq, add_sext16_eq, ← hcc]
  rfl

/-! ### Cost -/

@[simp] theorem addPair_cc (r : Reg16) (d : Word) (s : State) : (s.addPair r d).cc = s.cc + 4 := by
  rw [addPair_eq, State.setReg16_cc]

@[simp] theorem addHL_cc (v : Word) (s : State) : (s.addHL v).cc = s.cc :=
  State.setReg16_cc .hl (s.reg16 .hl + v) s

@[simp] theorem addSp_cc (e : Byte) (s : State) : (s.addSp e).cc = s.cc + 8 := by
  rw [addSp_eq]

/-! ### The statement -/

/-- Settles O22: each form by its equation on numbers, and one internal cycle (two for `SP`) beyond its fetches. -/
theorem arithmetic16 : Obligations.Arithmetic16 := by
  intro p e s h v sp
  refine ⟨?addHL, ?incPair, ?decPair, ?addSp⟩
  case addHL =>
    have hcc : (s.addHL (s.reg16 p.pair)).tick.cc = s.cc + 4 := by rw [State.tick_cc, addHL_cc]
    exact ⟨_, exec_addHL p s, addHL_tick_eq _ s, fits_of_encode (by cases p <;> nofun) (encode_addHL p) hcc rfl⟩
  case incPair =>
    exact ⟨_, exec_incPair p s, by rw [addPair_eq, word_add_one_eq],
      fits_of_encode (by cases p <;> nofun) (encode_incPair p) (addPair_cc _ 1 s) rfl⟩
  case decPair =>
    exact ⟨_, exec_decPair p s, by rw [addPair_eq, word_add_neg_one_eq],
      fits_of_encode (by cases p <;> nofun) (encode_decPair p) (addPair_cc _ (-1) s) rfl⟩
  case addSp =>
    exact ⟨_, rfl, addSp_eq e s, fits_of_encode nofun rfl (addSp_cc e s) rfl⟩

end Sys2Proof.Machine
end

section
/-! SUPPORT. The rotates, shifts and bit operations (44_rotate_shift_bit.md R270 to R285): what each form runs, its
encoding and cost, and its result and flags on numbers. -/

namespace Sys2Proof.Machine

open Sys2Proof.Family

/-! ### The prefixed instructions, for every operand -/

/-- The encoder's operand field is the one of the spec's table (30_encoding.md R144). -/
theorem operandCode_toNat (r : Operand) : (operandCode r).toNat = fieldCode r := by
  cases r with
  | reg x => cases x <;> rfl
  | indHL => rfl

theorem encode_cbOf_operand {x y : Nat} (hx : x < 4) (hy : y < 8) (r : Operand) :
    encode (cbOf x y r) = [0xCB, Family.opByte x y (fieldCode r)] := by
  have h := encode_cbOf hx hy (operandCode_lt r)
  rwa [operandOf_operandCode, operandCode_toNat] at h

theorem cbOf_ne_stop {x y : Nat} (hx : x < 4) (hy : y < 8) (r : Operand) : cbOf x y r ≠ .stop := by
  refine ne_of_apply_ne encode ?_
  rw [encode_cbOf_operand hx hy r]
  nofun

/-- A prefixed instruction takes two fetches and what it runs (R274). -/
theorem prefixed_completes {x y : Nat} {i : Instr} {d n : Int} {s t u : State} (r : Operand) (hx : x < 4) (hy : y < 8)
    (hi : i = cbOf x y r) (hexec : exec i s = .next t) (ht : t = u) (hc : u.cc = s.cc + d) (hn : n = 8 + d) :
    ∃ t, exec i s = .next t ∧ t = u ∧ fits i [0xCB, Family.opByte x y (fieldCode r)] n s t := by
  subst hi ht
  exact ⟨_, hexec, rfl, fits_of_encode (cbOf_ne_stop hx hy r) (encode_cbOf_operand hx hy r) hc hn⟩

theorem rot_eq_cbOf (op : RotOp) (r : Operand) : rot op r = cbOf 0 op.code r := by
  cases op <;> rfl

theorem bit_eq_cbOf (b : Fin 8) (r : Operand) : Family.bit b r = cbOf 1 b.val r := by
  fin_cases b <;> rfl

theorem res_eq_cbOf (b : Fin 8) (r : Operand) : Family.res b r = cbOf 2 b.val r := by
  fin_cases b <;> rfl

theorem set_eq_cbOf (b : Fin 8) (r : Operand) : Family.set b r = cbOf 3 b.val r := by
  fin_cases b <;> rfl

theorem rotOp_code_lt (op : RotOp) : op.code < 8 := by
  cases op <;> decide

theorem exec_bit (b : Fin 8) (r : Operand) (s : State) : exec (Family.bit b r) s = .next (s.testBit b.val r) := by
  fin_cases b <;> rfl

/-! ### The accumulator rotates -/

theorem exec_rotA {op : RotOp} {i : Instr} (h : rotA op = some i) (s : State) :
    exec i s = .next (s.rotateA (rotOp op.code)) := by
  cases op with
  | rlc | rrc | rl | rr => cases h; rfl
  | sla | sra | swap | srl => cases h

theorem encode_rotA {op : RotOp} {i : Instr} (h : rotA op = some i) : encode i = [Family.opByte 0 op.code 7] := by
  cases op with
  | rlc | rrc | rl | rr => cases h; rfl
  | sla | sra | swap | srl => cases h

theorem rotA_ne_stop {op : RotOp} {i : Instr} (h : rotA op = some i) : i ≠ .stop := by
  rintro rfl
  cases op <;> cases h

/-! ### Results and flags on numbers -/

/-- The result of a rotate or shift of a byte is a byte, so `Z` tests the number itself. -/
theorem rotOp_result_lt (op : RotOp) (m : Byte) (c : Bool) : (op.result m.toNat c).1 < 256 := by
  have hm := m.isLt
  have hc := c.toNat_le
  cases op <;> simp only [RotOp.result] <;> omega

theorem rotOp_result_eq_zero_iff (op : RotOp) (m : Byte) (c : Bool) :
    BitVec.ofNat 8 (op.result m.toNat c).1 = 0 ↔ (op.result m.toNat c).1 = 0 := by
  rw [ofNat_eq_zero_iff, Nat.mod_eq_of_lt (rotOp_result_lt op m c)]

/-- The tested bit as a digit of the number (R283). -/
theorem not_getLsbD_eq (m : Byte) (b : Nat) : (!m.getLsbD b) = decide (m.toNat / 2 ^ b % 2 = 0) := by
  rw [BitVec.getLsbD, Nat.testBit_eq_decide_div_mod_eq, ← decide_not, decide_eq_decide]
  omega

/-- No register is part of `F`, so the flags may be written before the result. -/
theorem setFlags_setReg8 (x : Reg8) (v : Byte) (z n h c : Bool) (s : State) :
    (s.setReg8 x v).setFlags z n h c = (s.setFlags z n h c).setReg8 x v := by
  cases x <;> rfl

theorem rotateA_eq (op : RotOp) (s : State) :
    let r := op.result s.cpu.a.toNat (s.cpu.f.getLsbD 4)
    s.rotateA (rotOp op.code) =
      { s with cpu := { s.cpu with a := BitVec.ofNat 8 r.1, f := flagByte false false false r.2 } } := by
  simp only [State.rotateA, rotOp_code_eq, setFlags_eq]
  rfl

theorem rotate_reg_eq (op : RotOp) (x : Reg8) (s : State) :
    let r := op.result (s.reg8 x).toNat (s.cpu.f.getLsbD 4)
    s.rotate (rotOp op.code) (.reg x) =
      ({ s with cpu := { s.cpu with f := flagByte (r.1 = 0) false false r.2 } }).setReg8 x (BitVec.ofNat 8 r.1) := by
  simp only [State.rotate, State.readOperand, State.writeOperand, rotOp_code_eq, rotOp_result_eq_zero_iff]
  rw [setFlags_setReg8, setFlags_eq]
  rfl

/-- The read and the write leave the CPU, so the carry rotated in is the one from before them. -/
theorem rotate_indHL_eq (op : RotOp) (s : State) :
    let q := s.memRead (s.reg16 .hl)
    let m := op.result q.1.toNat (s.cpu.f.getLsbD 4)
    s.rotate (rotOp op.code) .indHL =
      { q.2.memWrite (s.reg16 .hl) (BitVec.ofNat 8 m.1) with
        cpu := { s.cpu with f := flagByte (m.1 = 0) false false m.2 } } := by
  simp only [State.rotate, State.readOperand, State.writeOperand, rotOp_code_eq, memRead_reg16, setFlags_eq,
    memWrite_cpu, memRead_cpu, rotOp_result_eq_zero_iff]
  rfl

theorem bitFlags_eq (b : Nat) (m : Byte) (s : State) :
    s.bitFlags b m = { s with cpu := { s.cpu with
      f := flagByte (m.toNat / 2 ^ b % 2 = 0) false true (s.cpu.f.getLsbD 4) } } := by
  rw [State.bitFlags, setFlags_eq, not_getLsbD_eq]
  rfl

/-- The read leaves the CPU, so the carry kept is the one from before it. -/
theorem testBit_indHL_eq (b : Nat) (s : State) :
    let q := s.memRead (s.reg16 .hl)
    s.testBit b .indHL = { q.2 with cpu := { s.cpu with
      f := flagByte (q.1.toNat / 2 ^ b % 2 = 0) false true (s.cpu.f.getLsbD 4) } } := by
  simp only [State.testBit, State.readOperand, bitFlags_eq, memRead_cpu]

/-- The read leaves `HL`, so the write back goes where the read was. -/
theorem changeBit_indHL_eq (f : Byte → Byte) (s : State) :
    let q := s.memRead (s.reg16 .hl)
    s.changeBit f .indHL = q.2.memWrite (s.reg16 .hl) (f q.1) := by
  simp only [State.changeBit, State.readOperand, State.writeOperand, memRead_reg16]

/-! ### Cost -/

/-- A read and a write back at one address. -/
theorem memWrite_memRead_cc (a : Word) (v : Byte) (s : State) : ((s.memRead a).2.memWrite a v).cc = s.cc + 8 := by
  rw [memWrite_cc, memRead_cc, add_assoc]
  rfl

theorem setReg8_cc_add_zero (x : Reg8) (v : Byte) (s : State) : (s.setReg8 x v).cc = s.cc + 0 := by
  rw [State.setReg8_cc, add_zero]

/-! ### The statements -/

/-- Settles O23: the result on numbers, below 256, so `Z` tests the number; the form on `(HL)` adds one read and one
write. -/
theorem rotatesAndShifts : Obligations.RotatesAndShifts := by
  intro op i x s c ra r q m
  have hop := rotOp_code_lt op
  refine ⟨fun hi => ?rotA, ?reg, ?indHL⟩
  case rotA =>
    exact ⟨_, exec_rotA hi s, rotateA_eq op s, fits_of_encode_of_cc_eq (rotA_ne_stop hi) (encode_rotA hi) rfl rfl⟩
  case reg =>
    exact prefixed_completes (.reg x) (by decide) hop (rot_eq_cbOf op _) (exec_rot op _ s) (rotate_reg_eq op x s)
      (setReg8_cc_add_zero x _ _) rfl
  case indHL =>
    exact prefixed_completes .indHL (by decide) hop (rot_eq_cbOf op _) (exec_rot op _ s) (rotate_indHL_eq op s)
      (memWrite_memRead_cc _ _ s) rfl

/-- Settles O24: `BIT` reads and sets the flags, `RES` and `SET` write back what they read with the bit changed. -/
theorem bitResetAndSet : Obligations.BitResetAndSet := by
  intro b x s z q
  refine ⟨?bitReg, ?bitHL, ?resReg, ?resHL, ?setReg, ?setHL⟩
  case bitReg =>
    exact prefixed_completes (.reg x) (by decide) b.isLt (bit_eq_cbOf b _) (exec_bit b _ s)
      (bitFlags_eq b (s.reg8 x) s) (add_zero s.cc).symm rfl
  case bitHL =>
    exact prefixed_completes .indHL (by decide) b.isLt (bit_eq_cbOf b _) (exec_bit b _ s)
      (testBit_indHL_eq b s) (memRead_cc _ s) rfl
  case resReg =>
    exact prefixed_completes (.reg x) (by decide) b.isLt (res_eq_cbOf b _) (exec_res b _ s)
      rfl (setReg8_cc_add_zero x _ s) rfl
  case resHL =>
    exact prefixed_completes .indHL (by decide) b.isLt (res_eq_cbOf b _) (exec_res b _ s)
      (changeBit_indHL_eq (resetBit b) s) (memWrite_memRead_cc _ _ s) rfl
  case setReg =>
    exact prefixed_completes (.reg x) (by decide) b.isLt (set_eq_cbOf b _) (exec_set b _ s)
      rfl (setReg8_cc_add_zero x _ s) rfl
  case setHL =>
    exact prefixed_completes .indHL (by decide) b.isLt (set_eq_cbOf b _) (exec_set b _ s)
      (changeBit_indHL_eq (setBit b) s) (memWrite_memRead_cc _ _ s) rfl

end Sys2Proof.Machine
end

section
/-! SUPPORT. Jumps, calls and returns (45_control.md R300 to R309, R312): what each form runs, its encoding and its
cost, taken and not taken. -/

namespace Sys2Proof.Machine

open Sys2Proof.Family

/-! ### Encoding, and what each form runs -/

theorem encode_jp (a : Word) : encode (.jp a) = 0xC3 :: immBytes a := by
  rw [immBytes_eq]
  rfl

theorem encode_call (a : Word) : encode (.call a) = 0xCD :: immBytes a := by
  rw [immBytes_eq]
  rfl

theorem encode_jpIf (k : Cond) (a : Word) : encode (jpIf k a) = Family.opByte 3 (condCode k) 2 :: immBytes a := by
  rw [immBytes_eq]
  cases k <;> rfl

theorem encode_jrIf (k : Cond) (e : Byte) : encode (jrIf k e) = [Family.opByte 0 (4 + condCode k) 0, e] := by
  cases k <;> rfl

theorem encode_callIf (k : Cond) (a : Word) : encode (callIf k a) = Family.opByte 3 (condCode k) 4 :: immBytes a := by
  rw [immBytes_eq]
  cases k <;> rfl

theorem encode_retIf (k : Cond) : encode (retIf k) = [Family.opByte 3 (condCode k) 0] := by
  cases k <;> rfl

theorem encode_rst (y : Fin 8) : encode (rst y) = [Family.opByte 3 y.val 7] := by
  fin_cases y <;> rfl

/-- The machine's condition is the spec's, on the bits of `F` (30_encoding.md R147). -/
theorem holds_eq_condTrue (k : Cond) (s : State) : s.holds k = condTrue k s.cpu.f := by
  cases k <;> rfl

theorem exec_jpIf (k : Cond) (a : Word) (s : State) :
    exec (jpIf k a) s = .next (if condTrue k s.cpu.f then s.jump a else s) := by
  rw [← holds_eq_condTrue]
  cases k <;> rfl

theorem exec_jrIf (k : Cond) (e : Byte) (s : State) :
    exec (jrIf k e) s = .next (if condTrue k s.cpu.f then s.jump (s.relative e) else s) := by
  rw [← holds_eq_condTrue]
  cases k <;> rfl

theorem exec_callIf (k : Cond) (a : Word) (s : State) :
    exec (callIf k a) s = .next (if condTrue k s.cpu.f then s.callTo a else s) := by
  rw [← holds_eq_condTrue]
  cases k <;> rfl

theorem exec_retIf (k : Cond) (s : State) :
    exec (retIf k) s = .next (if condTrue k s.cpu.f then s.tick.returnTo else s.tick) := by
  rw [← holds_eq_condTrue]
  cases k <;> rfl

theorem exec_rst (y : Fin 8) (s : State) : exec (rst y) s = .next (s.callTo (BitVec.ofNat 16 (8 * y.val))) := by
  fin_cases y <;> rfl

/-! ### The state after a jump, a call and a return -/

theorem jump_relative_eq (e : Byte) (s : State) : s.jump (s.relative e) =
    { s with cc := s.cc + 4, cpu := { s.cpu with pc := displaced s.cpu.pc e } } := by
  rw [State.relative, add_sext16_eq]
  rfl

theorem jump_cc (a : Word) (s : State) : (s.jump a).cc = s.cc + 4 := rfl

/-- Of the CPU a push moves `SP` alone. -/
@[simp] theorem push16_cpu (w : Word) (s : State) : (s.push16 w).cpu = { s.cpu with sp := s.cpu.sp - 2 } := by
  simp only [push16_eq, memWrite_cpu]

theorem callTo_cc (a : Word) (s : State) : (s.callTo a).cc = s.cc + 12 := by
  rw [State.callTo, State.setPc_cc, push16_cc, State.tick_cc]
  omega

theorem returnTo_cc (s : State) : s.returnTo.cc = s.cc + 12 := by
  rw [State.returnTo, State.tick_cc, State.setPc_cc, pop16_cc]
  omega

/-- The two reads of the pop and the internal cycle after them take 12 (R307). -/
theorem returnTo_eq (s : State) :
    s.returnTo = { s.pop16.2 with cc := s.cc + 12, cpu := { s.pop16.2.cpu with pc := s.pop16.1 } } := by
  rw [← returnTo_cc]
  rfl

/-- `RETI` is `RET` with `ime` set at the stamp it ends with (R309). -/
theorem interruptReturn_eq (s : State) : s.interruptReturn =
    ({ s.returnTo with cpu := { s.returnTo.cpu with ime := true, minIntTime := s.returnTo.cc } }).intRecompute := rfl

/-! ### Both paths of a conditional instruction -/

/-- An instruction that chooses between two states completes on both paths. -/
theorem conditional_completes {i : Instr} {c : Bool} {bytes : List Byte} {m n : Int} {s t u : State}
    (hexec : exec i s = .next (if c then t else u)) (ht : fits i bytes m s t) (hu : fits i bytes n s u) :
    ∃ v, exec i s = .next v ∧ (c = true → v = t ∧ fits i bytes m s v) ∧
      (c = false → v = u ∧ fits i bytes n s v) := by
  refine ⟨_, hexec, ?taken, ?notTaken⟩
  case taken => rintro rfl; exact ⟨rfl, ht⟩
  case notTaken => rintro rfl; exact ⟨rfl, hu⟩

/-! ### The statements -/

/-- Settles O25: taken, each is the write of `pc` and an internal cycle; not taken, the state after the fetches. -/
theorem jumpsTakenAndNotTaken : Obligations.JumpsTakenAndNotTaken := by
  intro k a e s
  refine ⟨?jp, ?jpIf, ?jpHL, ?jr, ?jrIf⟩
  case jp =>
    exact ⟨s.jump a, rfl, rfl, fits_of_encode nofun (encode_jp a) (jump_cc a s) rfl⟩
  case jpIf =>
    have hs : jpIf k a ≠ .stop := by cases k <;> nofun
    exact conditional_completes (exec_jpIf k a s) (fits_of_encode hs (encode_jpIf k a) (jump_cc a s) rfl)
      (fits_of_encode_of_cc_eq hs (encode_jpIf k a) rfl rfl)
  case jpHL =>
    exact ⟨s.setPc (s.reg16 .hl), rfl, rfl, fits_of_encode_of_cc_eq nofun rfl rfl rfl⟩
  case jr =>
    exact ⟨_, rfl, jump_relative_eq e s, fits_of_encode nofun rfl (jump_cc _ s) rfl⟩
  case jrIf =>
    have hs : jrIf k e ≠ .stop := by cases k <;> nofun
    rw [← jump_relative_eq]
    exact conditional_completes (exec_jrIf k e s) (fits_of_encode hs (encode_jrIf k e) (jump_cc _ s) rfl)
      (fits_of_encode_of_cc_eq hs (encode_jrIf k e) rfl rfl)

/-- Settles O26: taken, each is an internal cycle, the push of `pc` and the write of `pc`; the push moves `SP` alone. -/
theorem callsPushTheReturnAddress : Obligations.CallsPushTheReturnAddress := by
  intro k y a s pushed
  refine ⟨?call, ?callIf, ?rst, ?cpu⟩
  case call =>
    exact ⟨s.callTo a, rfl, rfl, fits_of_encode nofun (encode_call a) (callTo_cc a s) rfl⟩
  case callIf =>
    have hs : callIf k a ≠ .stop := by cases k <;> nofun
    exact conditional_completes (exec_callIf k a s) (fits_of_encode hs (encode_callIf k a) (callTo_cc a s) rfl)
      (fits_of_encode_of_cc_eq hs (encode_callIf k a) rfl rfl)
  case rst =>
    exact ⟨_, exec_rst y s, rfl, fits_of_encode (by fin_cases y <;> nofun) (encode_rst y) (callTo_cc _ s) rfl⟩
  case cpu =>
    exact push16_cpu _ _

/-- Settles O27: each is a pop and an internal cycle; `RET cond` spends one more before them on both paths. -/
theorem returnsPopTheAddress : Obligations.ReturnsPopTheAddress := by
  intro k s q w
  refine ⟨?ret, ?retIf, ?reti⟩
  case ret =>
    exact ⟨_, rfl, returnTo_eq s, fits_of_encode nofun rfl (returnTo_cc s) rfl⟩
  case retIf =>
    have hs : retIf k ≠ .stop := by cases k <;> nofun
    have hcc : s.tick.returnTo.cc = s.cc + 16 := by
      rw [returnTo_cc, State.tick_cc]
      omega
    have ht : s.tick.returnTo = { w.2 with cc := s.cc + 16, cpu := { w.2.cpu with pc := w.1 } } := by
      rw [← hcc]
      rfl
    rw [← ht]
    exact conditional_completes (exec_retIf k s) (fits_of_encode hs (encode_retIf k) hcc rfl)
      (fits_of_encode hs (encode_retIf k) (State.tick_cc s) rfl)
  case reti =>
    have hcc : s.interruptReturn.cc = s.cc + 12 := returnTo_cc s
    refine ⟨_, rfl, ?_, fits_of_encode nofun rfl hcc rfl⟩
    rw [interruptReturn_eq, returnTo_eq]

end Sys2Proof.Machine
end

section
/-! SUPPORT. A stack in RAM: the cell behind each address of work RAM, its echo and HRAM, and a pop that undoes a push
there (20_memory.md R81, R101, R102; 45_control.md R305, R307). -/

namespace Sys2Proof.Machine

/-- The addresses that always answer with one byte of storage while the OAM-DMA engine is idle: work RAM, its echo and
HRAM (20_memory.md R90, R101, R102). -/
def IsRam (a : Word) : Prop := (0xC000 ≤ a.toNat ∧ a.toNat < 0xFE00) ∨ (0xFF80 ≤ a.toNat ∧ a.toNat < 0xFFFF)

/-- The address in work RAM that an address of work RAM or its echo stands for (20_memory.md R102). -/
def unecho (n : Nat) : Nat := if 0xE000 ≤ n then n - 0x2000 else n

/-- The cell behind an address of RAM. -/
def State.ramCell (a : Word) (s : State) : Store × Nat :=
  if a.toNat < 0xFE00 then (.wram, s.wramIndex (unecho a.toNat)) else (.hram, a.toNat - 0xFF80)

/-- The byte behind an address of RAM. -/
def State.ramByte (a : Word) (s : State) : Byte := s.byte (s.ramCell a).1 (s.ramCell a).2

/-- The store of a byte at an address of RAM. -/
def State.setRamByte (a : Word) (v : Byte) (s : State) : State := s.setByte (s.ramCell a).1 (s.ramCell a).2 v

/-! ### The bus on RAM -/

section
variable {a b : Word} {s : State}

theorem ramCell_of_lt (h : a.toNat < 0xFE00) : s.ramCell a = (.wram, s.wramIndex (unecho a.toNat)) := if_pos h

theorem ramCell_of_le (h : 0xFF80 ≤ a.toNat) : s.ramCell a = (.hram, a.toNat - 0xFF80) := if_neg (by omega)

/-- What the decoder does at an address of RAM. -/
theorem decoded_of_isRam (h : IsRam a) (v : Byte) :
    s.decodedRead a = (s.ramByte a, s) ∧ s.decodedWrite a v = s.setRamByte a v := by
  unfold State.ramByte State.setRamByte State.decodedRead State.decodedWrite
  rcases h with ⟨hlo, hhi⟩ | ⟨hlo, hhi⟩
  · rcases Nat.lt_or_ge a.toNat 0xE000 with he | he
    · have hn : unecho a.toNat = a.toNat := if_neg (Nat.not_le.mpr he)
      simp only [region_wram hlo he, ramCell_of_lt hhi, hn, and_self]
    · have hn : unecho a.toNat = a.toNat - 0x2000 := if_pos he
      simp only [region_echo he hhi, ramCell_of_lt hhi, hn, and_self]
  · simp only [region_hram hlo hhi, ramCell_of_le hlo, and_self]

theorem not_diverted_of_idle (hidle : s.dma.last = none) : ¬s.diverted a = true := by
  rw [diverted_iff]
  exact fun ⟨_, hlast, _⟩ => hlast hidle

theorem memRead_of_isRam (hidle : s.dma.last = none) (h : IsRam a) :
    s.memRead a = (s.ramByte a, { s with cc := s.cc + 4 }) := by
  rw [memRead_eq, busRead_of_not_diverted (not_diverted_of_idle hidle), busCatchUp_of_idle hidle,
    (decoded_of_isRam h 0).1]

theorem memWrite_of_isRam (hidle : s.dma.last = none) (h : IsRam a) (v : Byte) :
    s.memWrite a v = { s.setRamByte a v with cc := s.cc + 4 } := by
  rw [memWrite_eq, busWrite_of_not_diverted (not_diverted_of_idle hidle), busCatchUp_of_idle hidle,
    (decoded_of_isRam h v).2]

/-! ### Reading back -/

theorem byte_setByte_self (st : Store) (i : Nat) (v : Byte) : (s.setByte st i v).byte st i = v := by
  rw [State.byte, setByte_mem, Mems.read_putCell]
  exact if_pos ⟨rfl, rfl⟩

theorem byte_setByte_of_ne {c d : Store × Nat} (h : c ≠ d) (v : Byte) :
    (s.setByte d.1 d.2 v).byte c.1 c.2 = s.byte c.1 c.2 := by
  rw [State.byte, setByte_mem, Mems.read_putCell]
  exact if_neg fun ⟨hst, hi⟩ => h (Prod.ext hst hi)

theorem ramByte_setRamByte_self (v : Byte) : (s.setRamByte a v).ramByte a = v := byte_setByte_self _ _ v

theorem ramByte_setRamByte_of_ne (h : s.ramCell a ≠ s.ramCell b) (v : Byte) :
    (s.setRamByte b v).ramByte a = s.ramByte a := byte_setByte_of_ne h v

/-- The bytes of RAM do not depend on the CPU and the cycle counter. -/
theorem ramByte_withCpu (n : Int) (c : Cpu) : ({ s with cc := n, cpu := c }).ramByte a = s.ramByte a := rfl

theorem wramBank_pos (s : State) : 1 ≤ s.wramBank := by
  unfold State.wramBank
  split
  · exact Nat.le_max_right _ _
  · exact Nat.le_refl 1

/-- No two addresses of work RAM share a cell: the switchable bank is never the fixed bank 0 (20_memory.md R101). -/
theorem wramIndex_inj {j k : Nat} (hj : 0xC000 ≤ j) (hk : 0xC000 ≤ k) (h : s.wramIndex j = s.wramIndex k) :
    j = k := by
  have hbank := wramBank_pos s
  unfold State.wramIndex at h
  split_ifs at h <;> omega

/-- The two bytes of a stack word have cells of their own, across the step from work RAM into its echo too. -/
theorem ramCell_ne_of_adjacent (ha : IsRam a) (hb : IsRam b) (hab : a.toNat = b.toNat + 1) :
    s.ramCell a ≠ s.ramCell b := by
  intro h
  rcases ha with ⟨halo, hahi⟩ | ⟨halo, hahi⟩ <;> rcases hb with ⟨hblo, hbhi⟩ | ⟨hblo, hbhi⟩
  · rw [ramCell_of_lt hahi, ramCell_of_lt hbhi] at h
    have hle {n : Nat} (hn : 0xC000 ≤ n) : 0xC000 ≤ unecho n := by unfold unecho; split_ifs <;> omega
    have heq := wramIndex_inj (hle halo) (hle hblo) (Prod.mk.inj h).2
    unfold unecho at heq
    split_ifs at heq <;> omega
  · omega
  · omega
  · rw [ramCell_of_le halo, ramCell_of_le hblo] at h
    have heq := (Prod.mk.inj h).2
    omega

/-! ### Push and pop -/

theorem push16_of_isRam (hidle : s.dma.last = none) (hhi : IsRam (s.cpu.sp - 1)) (hlo : IsRam (s.cpu.sp - 2))
    (w : Word) : s.push16 w =
      { (s.setRamByte (s.cpu.sp - 1) (hiByte w)).setRamByte (s.cpu.sp - 2) (loByte w) with
        cc := s.cc + 8, cpu := { s.cpu with sp := s.cpu.sp - 2 } } := by
  have hcc : s.cc + 8 = s.cc + 4 + 4 := (add_assoc s.cc 4 4).symm
  rw [push16_eq, memWrite_of_isRam (by exact hidle) hhi, memWrite_of_isRam (by exact hidle) hlo, hcc]
  rfl

theorem pop16_of_isRam (hidle : s.dma.last = none) (hlo : IsRam s.cpu.sp) (hhi : IsRam (s.cpu.sp + 1)) : s.pop16 =
    (join (s.ramByte (s.cpu.sp + 1)) (s.ramByte s.cpu.sp),
      { s with cc := s.cc + 8, cpu := { s.cpu with sp := s.cpu.sp + 2 } }) := by
  have hcc : s.cc + 8 = s.cc + 4 + 4 := (add_assoc s.cc 4 4).symm
  simp only [pop16_eq, memRead_of_isRam hidle hlo]
  rw [memRead_of_isRam (by exact hidle) hhi, hcc]
  rfl

/-- A pop takes back the word the last push left, and changes no memory. -/
theorem pop16_of_pushed {t : State} {sp w : Word} (hidle : t.dma.last = none) (hhi : IsRam (sp - 1))
    (hlo : IsRam (sp - 2)) (hsp : t.cpu.sp = sp - 2) (hhiByte : t.ramByte (sp - 1) = hiByte w)
    (hloByte : t.ramByte (sp - 2) = loByte w) :
    t.pop16 = (w, { t with cc := t.cc + 8, cpu := { t.cpu with sp := sp } }) := by
  have h1 : t.cpu.sp + 1 = sp - 1 := by rw [hsp]; bv_omega
  have h2 : t.cpu.sp + 2 = sp := by rw [hsp]; bv_omega
  rw [pop16_of_isRam hidle (hsp ▸ hlo) (h1 ▸ hhi), h1, h2, hsp, hhiByte, hloByte, join_hiByte_loByte]

/-- The call's state on a stack in RAM: the two bytes of the return address, `SP` and `pc`. -/
theorem callTo_of_isRam (hidle : s.dma.last = none) (hhi : IsRam (s.cpu.sp - 1)) (hlo : IsRam (s.cpu.sp - 2))
    (target : Word) : s.callTo target =
      { (s.setRamByte (s.cpu.sp - 1) (hiByte s.cpu.pc)).setRamByte (s.cpu.sp - 2) (loByte s.cpu.pc) with
        cc := s.cc + 4 + 8, cpu := { s.cpu with sp := s.cpu.sp - 2, pc := target } } := by
  rw [State.callTo, push16_of_isRam (s := s.tick) hidle hhi hlo]
  rfl

end

/-! ### The statement -/

/-- Both bytes below a stack pointer of the statement's ranges are RAM. -/
theorem isRam_below_stack {sp : Word}
    (h : (0xC002 ≤ sp.toNat ∧ sp.toNat ≤ 0xFE00) ∨ (0xFF82 ≤ sp.toNat ∧ sp.toNat ≤ 0xFFFF)) :
    IsRam (sp - 1) ∧ IsRam (sp - 2) ∧ (sp - 1).toNat = (sp - 2).toNat + 1 := by
  have h1 : (sp - 1).toNat = sp.toNat - 1 := by bv_omega
  have h2 : (sp - 2).toNat = sp.toNat - 2 := by bv_omega
  unfold IsRam
  omega

/-- Settles O28: the two bytes pushed lie in cells of their own, so the pop reads the return address back. -/
theorem returnAfterCallResumesTheCaller : Obligations.ReturnAfterCallResumesTheCaller := by
  intro a s hidle hstack
  obtain ⟨hhi, hlo, hadj⟩ := isRam_below_stack hstack
  have hcall := callTo_of_isRam hidle hhi hlo a
  have hhiByte : (s.callTo a).ramByte (s.cpu.sp - 1) = hiByte s.cpu.pc := by
    rw [hcall, ramByte_withCpu, ramByte_setRamByte_of_ne (ramCell_ne_of_adjacent hhi hlo hadj),
      ramByte_setRamByte_self]
  have hloByte : (s.callTo a).ramByte (s.cpu.sp - 2) = loByte s.cpu.pc := by
    rw [hcall, ramByte_withCpu, ramByte_setRamByte_self]
  have hpop := pop16_of_pushed (by rw [hcall]; exact hidle) hhi hlo (by rw [hcall]) hhiByte hloByte
  refine ⟨s.callTo a, (s.callTo a).returnTo, rfl, rfl, rfl, ?cpu, ?mem⟩
  case cpu =>
    rw [State.returnTo, hpop, hcall]
    rfl
  case mem =>
    rw [State.returnTo, hpop]
    rfl

end Sys2Proof.Machine
end

section
/-! SUPPORT. The locked-up state (46_system.md R327, 70_reset_and_hazards.md R568): what keeps it, and every step of a
locked-up machine other than a reset or a load does. -/

namespace Sys2Proof.Machine

open Sys2Proof.Family

/-! ### The interrupt slot and the next slot -/

/-- With `IE` clear no interrupt is pending, so the INTERRUPTS slot is DISABLED (60_exceptions.md R346). -/
theorem interruptDeadline_of_ie_eq_zero {s : State} (h : s.io.ie = 0x00) : s.interruptDeadline = none := by
  simp [State.interruptDeadline, State.pending, h]

/-- Of the slots that can be chosen END alone may be DISABLED (61_scheduler.md R405). -/
theorem nextSlot_ne_of_disabled {s : State} {sl : Slot} (hd : s.sched.time sl = none) (hsl : sl ≠ .endRun) :
    s.nextSlot ≠ sl := by
  rintro rfl
  unfold State.nextSlot at hd hsl
  split at hd
  case h_1 hfirst =>
    obtain ⟨-, htime, -⟩ := firstDue_spec _ _ _ _ hfirst
    cases hd.symm.trans htime
  case h_2 hfirst => simp only [hfirst, ne_eq, not_true_eq_false] at hsl

/-! ### What keeps the locked-up state -/

/-- From `s` to `t` nothing ends the locked-up state, and the CPU is as it was but for the two stamps a rebase lowers
(61_scheduler.md R410). -/
structure KeepsLock (s t : State) : Prop where
  cpu : { t.cpu with stopStart := s.cpu.stopStart, minIntTime := s.cpu.minIntTime } = s.cpu
  ie : t.io.ie = s.io.ie
  unhalt : s.sched.unhalt = none → t.sched.unhalt = none

section
variable {s t u : State}

theorem KeepsLock.of_cpu_eq (hcpu : t.cpu = s.cpu) (hie : t.io.ie = s.io.ie)
    (hunhalt : t.sched.unhalt = s.sched.unhalt) : KeepsLock s t :=
  ⟨by rw [hcpu], hie, hunhalt.trans⟩

theorem KeepsLock.refl (s : State) : KeepsLock s s := .of_cpu_eq rfl rfl rfl

theorem KeepsLock.trans (h : KeepsLock s t) (k : KeepsLock t u) : KeepsLock s u where
  cpu := (congrArg (fun c : Cpu => { c with stopStart := s.cpu.stopStart, minIntTime := s.cpu.minIntTime })
    k.cpu).trans h.cpu
  ie := k.ie.trans h.ie
  unhalt hs := k.unhalt (h.unhalt hs)

theorem KeepsLock.lockedUp (h : KeepsLock s t) (hs : lockedUp s) : lockedUp t := by
  obtain ⟨hhalted, hstopped, hie, hunhalt⟩ := hs
  exact ⟨(congrArg Cpu.halted h.cpu).trans hhalted, (congrArg Cpu.stopped h.cpu).trans hstopped, h.ie.trans hie,
    h.unhalt hunhalt⟩

end

section
variable (s : State)

theorem keepsLock_setSlot {sl : Slot} (h : sl ≠ .unhalt) (d : Option Int) : KeepsLock s (s.setSlot sl d) :=
  .of_cpu_eq rfl rfl (Deadlines.time_set_of_ne h.symm d s.sched)

theorem keepsLock_timerCatchUp (t : Int) : KeepsLock s (s.timerCatchUp t) := by
  refine .of_cpu_eq (steady_timerCatchUp t s).cpu ?ie ?unhalt
  all_goals
    simp only [State.timerCatchUp, State.timerCount]
    split_ifs <;> rfl

theorem keepsLock_dmaCatchUp (t : Int) : KeepsLock s (s.dmaCatchUp t) := by
  obtain ⟨o, d, e, hsteps⟩ := dmaSteps_form (s.dmaDue t) s
  unfold State.dmaCatchUp
  split_ifs
  · exact .refl s
  · rw [hsteps]
    exact .of_cpu_eq rfl rfl rfl

theorem hostTime_form : ∃ e, s.hostTime.2 = { s with ext := e } := by
  unfold State.hostTime
  split
  · exact ⟨s.ext, rfl⟩
  · exact ⟨_, rfl⟩

theorem rtcAdvance_form (t : Int) : ∃ r e, s.rtcAdvance t = { s with rtc := r, ext := e } := by
  obtain ⟨e, he⟩ := hostTime_form s
  simp only [State.rtcAdvance]
  split
  · exact ⟨s.rtc, s.ext, rfl⟩
  · split
    · exact ⟨_, s.ext, rfl⟩
    · exact ⟨_, e, by rw [he]⟩

theorem keepsLock_rtcAdvance (t : Int) : KeepsLock s (s.rtcAdvance t) := by
  obtain ⟨r, e, h⟩ := rtcAdvance_form s t
  rw [h]
  exact .of_cpu_eq rfl rfl rfl

/-- A handler sets only the device slots, and of the interrupt registers only `IF` (20_memory.md R112). -/
theorem keepsLock_callExt (hdma : Bool) (ev : ExtEvent) : KeepsLock s (s.callExt hdma ev).2 := by
  have h := callExt_handlerDoes hdma ev s
  unfold handlerDoes at h
  split at h
  case h_1 =>
    rw [h]
    exact .of_cpu_eq rfl rfl rfl
  case h_2 =>
    rw [h.1]
    exact .of_cpu_eq rfl rfl rfl

theorem keepsLock_extFire (sl : ExtSlot) : KeepsLock s (s.extFire sl) := by
  have hsl : sl.slot ≠ .unhalt := by cases sl <;> nofun
  exact ((keepsLock_setSlot s hsl none).trans (keepsLock_callExt _ _ _)).trans (keepsLock_setSlot _ hsl _)

/-- The rebase lowers the stamps of the CPU that the locked-up state leaves aside (61_scheduler.md R410). -/
theorem keepsLock_rebase : KeepsLock s s.rebase := by
  refine ((keepsLock_timerCatchUp s s.cc).trans (keepsLock_dmaCatchUp _ s.cc)).trans
    ((keepsLock_rtcAdvance _ s.cc).trans ⟨rfl, rfl, fun h => ?_⟩)
  exact congrArg (Option.map (· - rebaseDelta)) h

theorem keepsLock_endRun : KeepsLock s s.endRun := by
  have hend (ev : ExtEvent) : KeepsLock s ((s.setSlot .endRun none).logEvent ev) := .of_cpu_eq rfl rfl rfl
  simp only [State.endRun]
  split_ifs
  · exact (hend _).trans (keepsLock_rebase _)
  · exact hend _

/-- The two slots that end a halt aside, none that fires ends the locked-up state (60_exceptions.md R348, R356). -/
theorem keepsLock_fire {sl : Slot} (hu : sl ≠ .unhalt) (hi : sl ≠ .interrupts) : KeepsLock s (s.fire sl) := by
  cases sl with
  | unhalt => exact absurd rfl hu
  | interrupts => exact absurd rfl hi
  | endRun => exact keepsLock_endRun s
  | blit | serial | hdma | video => exact keepsLock_extFire s _
  | oamDma => exact keepsLock_dmaCatchUp s s.cc
  | tima => exact keepsLock_timerCatchUp s s.cc

/-- The start of a run polls the buttons only while stopped (60_exceptions.md R358). -/
theorem keepsLock_beginRun (h : s.cpu.stopped = false) (n : Nat) : KeepsLock s (s.beginRun n) := by
  simp only [State.beginRun, h]
  exact .of_cpu_eq rfl rfl rfl

theorem keepsLock_setBaseTime (ts : Int) : KeepsLock s (s.setBaseTime ts) :=
  (keepsLock_rtcAdvance s s.cc).trans (.of_cpu_eq rfl rfl rfl)

theorem keepsLock_setDivisorOffset (o : Int) : KeepsLock s (s.setDivisorOffset o) := by
  unfold State.setDivisorOffset
  split_ifs
  · exact (keepsLock_rtcAdvance s s.cc).trans (.of_cpu_eq rfl rfl rfl)
  · exact .refl s

theorem keepsLock_hostCall (h : s.cpu.stopped = false) {c : HostCall} (hreset : ∀ r, c ≠ .reset r)
    (hload : ∀ q, c ≠ .load q) : KeepsLock s (s.hostCall c) := by
  cases c with
  | runFor n => exact keepsLock_beginRun s h n
  | setBaseTime ts => exact keepsLock_setBaseTime s ts
  | setDivisorOffset o => exact keepsLock_setDivisorOffset s o
  | reset r => exact absurd rfl (hreset r)
  | load q => exact absurd rfl (hload q)

end

/-! ### The step -/

section
variable {s t : State}

/-- Taking a host call from the list changes the list alone. -/
theorem keepsLock_nextCall {c : HostCall} {u : State} (h : s.nextCall = some (c, u)) : KeepsLock s u := by
  unfold State.nextCall at h
  split at h <;> cases h
  exact .of_cpu_eq rfl rfl rfl

/-- A halted CPU runs no instruction (60_exceptions.md R343). -/
theorem runLoop_cases_of_halted (hh : s.cpu.halted = true) (e : runLoop s = .next t) :
    t = s ∨ (∃ n, t = s.addCc n) ∨ t = s.fire s.nextSlot := by
  simp only [runLoop, hh, if_true] at e
  split at e
  · cases e; exact .inl rfl
  · split_ifs at e
    · cases e; exact .inr (.inl ⟨_, rfl⟩)
    · cases e; exact .inr (.inr rfl)

theorem keepsLock_runMachine (hs : s.Inv) (hl : lockedUp s) (e : runMachine s = .next t) : KeepsLock s t := by
  obtain ⟨hhalted, -, hie, hunhalt⟩ := hl
  have hint : s.sched.interrupts = none := by
    rw [← Option.isNone_iff_eq_none, ← Option.not_isSome, hs.interruptSlot, interruptDeadline_of_ie_eq_zero hie]
    rfl
  unfold runMachine at e
  split at e
  · cases e
  · obtain rfl | ⟨n, rfl⟩ | rfl := runLoop_cases_of_halted hhalted e
    · exact .refl t
    · exact .of_cpu_eq rfl rfl rfl
    · exact keepsLock_fire s (nextSlot_ne_of_disabled hunhalt nofun) (nextSlot_ne_of_disabled hint nofun)

end

/-- Settles O34: UNHALT and INTERRUPTS, which alone end a halt, stay DISABLED, and every other case of a step keeps what
the locked-up state is made of. -/
theorem lockedUpUntilReset : Obligations.LockedUpUntilReset := by
  intro s t hs hl hreset hload e
  suffices h : KeepsLock s t from ⟨h.lockedUp hl, h.cpu⟩
  unfold step machineStep at e
  split at e
  case h_1 q hq =>
    obtain ⟨c, u⟩ := q
    have hcall := keepsLock_nextCall hq
    obtain ⟨-, hstopped, -⟩ := hcall.lockedUp hl
    rw [runHostCall_next e]
    refine hcall.trans (keepsLock_hostCall u hstopped ?_ ?_)
    · rintro r rfl; exact hreset r u hq
    · rintro q rfl; exact hload q u hq
  case h_2 =>
    split_ifs at e
    · exact keepsLock_runMachine hs hl e
    · cases e; exact .refl s

end Sys2Proof.Machine
end

section
/-! SUPPORT. The system instructions (46_system.md R320 to R327): what each runs as a whole next state, the instruction
behind the prefix, and the undefined opcodes. -/

namespace Sys2Proof.Machine

open Sys2Proof.Family

/-! ### HALT -/

section
variable (s : State)

/-- The halt bug and the halt proper read the next opcode, which leaves the CPU (R322). -/
theorem haltBug_eq : s.haltBug =
    let next := s.busRead s.cpu.pc
    { next.2 with cpu := { s.cpu with latch := next.1, prefetched := true } } := by
  simp only [State.haltBug, busRead_cpu]

theorem haltProper_eq : s.haltProper =
    let next := s.busRead s.cpu.pc
    ({ next.2 with cpu := { s.cpu with
      latch := next.1, pc := s.cpu.pc + 1, prefetched := true, halted := true } }).intRecompute := by
  simp only [State.haltProper, busRead_cpu]

@[simp] theorem timerCatchUp_cpu (t : Int) : (s.timerCatchUp t).cpu = s.cpu := (steady_timerCatchUp t s).cpu

@[simp] theorem timerCatchUp_cc (t : Int) : (s.timerCatchUp t).cc = s.cc := (steady_timerCatchUp t s).cc

/-- The interrupts of `HALT`'s cases are those pending after the timer's catch-up (R322). -/
theorem halt_eq : s.halt =
    let c := s.timerCatchUp s.cc
    if c.pending = 0 then c.haltProper else if s.cpu.ime then c.haltAgain else c.haltBug := by
  by_cases hp : (s.timerCatchUp s.cc).pending = 0
  · have hw : (s.timerCatchUp s.cc).interruptWaiting = false := by rw [State.interruptWaiting, hp]; rfl
    simp [State.halt, hw, hp]
  · have hw : (s.timerCatchUp s.cc).interruptWaiting = true := bne_iff_ne.mpr hp
    simp only [State.halt, hw, if_neg hp, timerCatchUp_cpu]
    cases s.cpu.ime <;> rfl

theorem halt_cc : s.halt.cc = s.cc := by
  have hread (u : State) (hu : u.cc = s.cc) : (u.busRead u.cpu.pc).2.cc = s.cc := (busRead_cc _ u).trans hu
  rw [halt_eq]
  dsimp only
  split_ifs
  · exact hread _ (timerCatchUp_cc s _)
  · exact timerCatchUp_cc s _
  · exact hread _ (timerCatchUp_cc s _)

end

/-! ### STOP -/

section
variable {s : State}

theorem timerCatchUp_prepare (t : Int) : (s.timerCatchUp t).io.prepare = s.io.prepare := by
  simp only [State.timerCatchUp, State.timerCount]
  split_ifs <;> rfl

theorem writeDiv_cpu (s : State) : s.writeDiv.cpu = s.cpu := (steady_writeDiv s).cpu

theorem writeDiv_cc (s : State) : s.writeDiv.cc = s.cc := (steady_writeDiv s).cc

theorem writeDiv_prepare : s.writeDiv.io.prepare = s.io.prepare := timerCatchUp_prepare s.cc

theorem writeDiv_cgb : s.writeDiv.cgb = s.cgb := by
  simp only [State.cgb, (steady_writeDiv s).params]

/-- The skip of the second byte and the reset of the divider come before the choice (R323). -/
theorem stop_of_prepared (hg : s.cgb = true) (hp : s.io.prepare = true) :
    s.stop = (s.setPc (s.cpu.pc + 1)).writeDiv.switchSpeed := by
  refine if_pos ?_
  rw [writeDiv_cgb, writeDiv_prepare, Bool.and_eq_true]
  exact ⟨hg, hp⟩

theorem stop_of_not_prepared (h : s.cgb = false ∨ s.io.prepare = false) :
    s.stop = (s.setPc (s.cpu.pc + 1)).writeDiv.stopProper := by
  refine if_neg ?_
  rw [writeDiv_cgb, writeDiv_prepare, Bool.not_eq_true, Bool.and_eq_false_iff]
  exact h

theorem speedSwitchPause_not (b : Bool) : speedSwitchPause (!b) = 0x20000 + (if b then 0 else 8) := by
  cases b <;> rfl

theorem switchSpeed_eq (s : State) : s.switchSpeed =
    let r := s.rtcAdvance s.cc
    (({ r with
      cpu := { s.cpu with doubleSpeed := !s.cpu.doubleSpeed, halted := true }
      io := { r.io with prepare := false } }).setSlot .unhalt
        (some (s.cc + 0x20000 + (if s.cpu.doubleSpeed then 0 else 8)))).intRecompute := by
  simp only [State.switchSpeed, (steady_rtcAdvance s.cc s).cpu, (steady_rtcAdvance s.cc s).cc, speedSwitchPause_not,
    add_assoc]

theorem stopProper_eq (s : State) : s.stopProper =
    (({ s.dmaCatchUp s.cc with
      cpu := { s.cpu with halted := true, stopped := true, stopStart := s.cc }
      }).setSlot .unhalt none).intRecompute := by
  simp only [State.stopProper, (steady_dmaCatchUp s.cc s).cpu, (steady_dmaCatchUp s.cc s).cc]

theorem stop_cc (s : State) : s.stop.cc = s.cc := by
  have hdiv : (s.setPc (s.cpu.pc + 1)).writeDiv.cc = s.cc := writeDiv_cc _
  simp only [State.stop]
  split_ifs
  · exact (steady_rtcAdvance _ _).cc.trans hdiv
  · exact (steady_dmaCatchUp _ _).cc.trans hdiv

end

/-! ### The prefix -/

section
variable {y : Nat} (hy : y < 8) (r : Operand) (s : State)
include hy

theorem exec_rotOf : exec (rotOf y r) s = .next (s.rotate (rotOp y) r) := by
  interval_cases y <;> rfl

theorem exec_bitOf : exec (bitOf y r) s = .next (s.testBit y r) :=
  (congrArg (exec · s) (bit_eq_cbOf ⟨y, hy⟩ r)).symm.trans (exec_bit ⟨y, hy⟩ r s)

theorem exec_resOf : exec (resOf y r) s = .next (s.changeBit (resetBit y) r) :=
  (congrArg (exec · s) (res_eq_cbOf ⟨y, hy⟩ r)).symm.trans (exec_res ⟨y, hy⟩ r s)

theorem exec_setOf : exec (setOf y r) s = .next (s.changeBit (setBit y) r) :=
  (congrArg (exec · s) (set_eq_cbOf ⟨y, hy⟩ r)).symm.trans (exec_set ⟨y, hy⟩ r s)

end

/-- The instruction a second byte selects runs what the byte selects, group by group (30_encoding.md R155). -/
theorem exec_cbInstr (op2 : Byte) (s : State) : exec (cbInstr op2) s = .next (s.prefixed op2) := by
  have hx := fieldX_lt op2
  have hy := fieldY_lt op2
  unfold cbInstr State.prefixed
  generalize fieldX op2 = x at hx ⊢
  interval_cases x
  · exact exec_rotOf hy _ s
  · exact exec_bitOf hy _ s
  · exact exec_resOf hy _ s
  · exact exec_setOf hy _ s

theorem exec_prefixCb (s : State) : exec .prefixCb s = .next (s.fetch8.2.prefixed s.fetch8.1) := rfl

/-! ### The undefined opcodes -/

theorem exec_undefined {i : Instr} (h : i ∈ undefined) (s : State) : exec i s = .next s.lockUp := by
  fin_cases h <;> rfl

theorem wellFormed_of_mem_undefined : ∀ i ∈ undefined, wellFormed i = true := by decide

theorem ne_stop_of_mem_undefined : ∀ i ∈ undefined, i ≠ .stop := by decide

/-- The opcodes of R327 are those of the undefined instructions. -/
theorem exists_mem_undefined_encode : ∀ op ∈ [0xD3#8, 0xDB, 0xDD, 0xE3, 0xE4, 0xEB, 0xEC, 0xED, 0xF4, 0xFC, 0xFD],
    ∃ i ∈ undefined, encode i = [op] := by decide

theorem lockUp_eq (s : State) : s.lockUp =
    { s with
      cpu := { s.cpu with halted := true }
      io := { s.io with ie := 0x00 }
      sched := { s.sched with unhalt := none, interrupts := none } } := by
  rw [State.lockUp, State.intRecompute, interruptDeadline_of_ie_eq_zero rfl]
  rfl

/-! ### The statements -/

/-- Settles O29: each is its own equation, and takes no time beyond its fetch. -/
theorem nopDiAndEi : Obligations.NopDiAndEi := by
  intro s
  refine ⟨?nop, ?di, ?ei⟩
  case nop => exact ⟨s, rfl, rfl, fits_of_encode_of_cc_eq nofun rfl rfl rfl⟩
  case di => exact ⟨s.disableInterrupts, rfl, rfl, fits_of_encode_of_cc_eq nofun rfl rfl rfl⟩
  case ei => exact ⟨s.enableInterrupts, rfl, rfl, fits_of_encode_of_cc_eq nofun rfl rfl rfl⟩

/-- Settles O30: the pending set and `ime` choose the case, and neither the catch-up nor the read changes the CPU. -/
theorem haltHasThreeCases : Obligations.HaltHasThreeCases := by
  intro s c next
  refine ⟨s.halt, rfl, fits_of_encode_of_cc_eq nofun rfl (halt_cc s) rfl, ?bug, ?again, ?proper⟩
  case bug =>
    intro hp hi
    rw [halt_eq, if_neg hp, hi, if_neg Bool.false_ne_true, haltBug_eq, timerCatchUp_cpu]
  case again =>
    intro hp hi
    rw [halt_eq, if_neg hp, if_pos hi, State.haltAgain, State.setPc, timerCatchUp_cpu]
  case proper =>
    intro hp
    rw [halt_eq, if_pos hp, haltProper_eq, timerCatchUp_cpu]

/-- Settles O31: the divider's reset keeps what chooses the case; each case is its equation. -/
theorem stopSwitchesSpeedOrStops : Obligations.StopSwitchesSpeedOrStops := by
  intro s c d r m
  have hd : (s.setPc (s.cpu.pc + 1)).writeDiv = d := rfl
  have hcpu : d.cpu = { s.cpu with pc := s.cpu.pc + 1 } := writeDiv_cpu (s.setPc (s.cpu.pc + 1))
  have hcc : d.cc = s.cc := writeDiv_cc (s.setPc (s.cpu.pc + 1))
  refine ⟨s.stop, rfl, ⟨rfl, by rw [stop_cc, sub_self]; rfl⟩, ?switch, ?stop⟩
  case switch =>
    intro hg hp
    rw [stop_of_prepared hg hp, hd, switchSpeed_eq, hcpu, hcc]
  case stop =>
    intro h
    rw [stop_of_not_prepared h, hd, stopProper_eq, hcpu, hcc]

/-- Settles O32: the group of the second byte is the group of the instruction it decodes to. -/
theorem prefixIsTransparent : Obligations.PrefixIsTransparent := fun s =>
  ⟨cbInstr s.fetch8.1, _, (Decodes.cb rfl).decode_eq, exec_prefixCb s,
    (exec_prefixCb s).trans (exec_cbInstr s.fetch8.1 s.fetch8.2).symm⟩

/-- Settles O33: with `IE` clear the INTERRUPTS slot is DISABLED. -/
theorem undefinedOpcodesLockTheCpuUp : Obligations.UndefinedOpcodesLockTheCpuUp := by
  intro op s hop
  obtain ⟨i, hi, he⟩ := exists_mem_undefined_encode op hop
  have hdecode := (decodes_encode (wellFormed_of_mem_undefined i hi) []).decode_eq
  rw [he] at hdecode
  exact ⟨i, s.lockUp, hdecode, hi, exec_undefined hi s,
    fits_of_encode_of_cc_eq (ne_stop_of_mem_undefined i hi) he rfl rfl, lockUp_eq s⟩

end Sys2Proof.Machine
end

section
/-! SUPPORT. A step of a run and a step between runs (60_exceptions.md R340 to R343, R358): every pass of the run loop and
every host call that is made answers a next state. -/

namespace Sys2Proof.Machine

/-! ### The run loop answers -/

/-- No arm of `exec` faults or refuses. -/
theorem exec_next (i : Instr) (s : State) : ∃ t, exec i s = .next t := by
  cases i <;> exact ⟨_, rfl⟩

theorem fetchBytes_length (n : Nat) (s : State) : (s.fetchBytes n).1.length = n := by
  induction n generalizing s with
  | zero => rfl
  | succ n ih => exact congrArg (· + 1) (ih _)

/-- A fetch takes the bytes the form of its opcode has, the byte that `STOP` skips aside. -/
theorem operandCount_add_one (op : Byte) :
    operandCount op + 1 = formLength (opForm op) ∨ ∃ i, opForm op = .skip i := by
  unfold operandCount
  cases opForm op with
  | skip i => exact .inr ⟨i, rfl⟩
  | plain _ | imm8 _ | imm16 _ | cb => exact .inl rfl

/-- The bytes of a fetch always decode (30_encoding.md R157). -/
theorem decode_fetchInstr (s : State) : ∃ i rest, decode s.fetchInstr.1 = .ok i rest := by
  rw [fetchInstr_eq]
  obtain hl | ⟨i, hi⟩ := operandCount_add_one s.fetchOpcode.1
  · rw [← fetchBytes_length (operandCount s.fetchOpcode.1) s.fetchOpcode.2] at hl
    obtain ⟨i, hi⟩ := decodes_of_formLength hl []
    exact ⟨i, [], by simpa using hi.decode_eq⟩
  · exact ⟨i, _, (Decodes.skip hi).decode_eq⟩

theorem executeInstruction_of_decode {s : State} {i : Instr} {rest : List Byte}
    (h : decode s.fetchInstr.1 = .ok i rest) : executeInstruction s = exec i s.fetchInstr.2 := by
  simp only [executeInstruction, runBytes, h]

theorem executeInstruction_next (s : State) : ∃ t, executeInstruction s = .next t := by
  obtain ⟨i, rest, h⟩ := decode_fetchInstr s
  rw [executeInstruction_of_decode h]
  exact exec_next i _

theorem runLoop_next (s : State) : ∃ t, runLoop s = .next t := by
  unfold runLoop
  split
  · exact ⟨s, rfl⟩
  · split_ifs
    · exact ⟨_, rfl⟩
    · exact executeInstruction_next s
    · exact ⟨_, rfl⟩

/-! ### Host calls -/

/-- Only `RunFor` can be refused, for the reason the machine cannot run (62_mbc.md R431). -/
theorem runHostCall_answers (c : HostCall) (s : State) :
    runHostCall c s = .next (s.hostCall c) ∨ ∃ r, s.cannotRun = some r ∧ runHostCall c s = .refused r := by
  cases c with
  | runFor n =>
    unfold runHostCall
    cases hr : s.cannotRun with
    | some r => exact .inr ⟨r, rfl, rfl⟩
    | none => exact .inl rfl
  | setBaseTime _ | setDivisorOffset _ | reset _ | load _ => exact .inl rfl

theorem runHostCall_of_not_runFor {c : HostCall} (h : ∀ k, c ≠ .runFor k) (s : State) :
    runHostCall c s = .next (s.hostCall c) := by
  cases c with
  | runFor n => exact absurd rfl (h n)
  | setBaseTime _ | setDivisorOffset _ | reset _ | load _ => rfl

theorem runHostCall_runFor {s : State} (h : s.cannotRun = none) (n : Nat) :
    runHostCall (.runFor n) s = .next (s.beginRun n) := by
  simp only [runHostCall, h]
  rfl

theorem beginRun_of_running {s : State} (h : s.cpu.stopped = false) (n : Nat) : s.beginRun n =
    { s with sched := { s.sched with endRun := some (s.cc + n) }, ext := { s.ext with runStart := s.cc } } := by
  simp only [State.beginRun, h, Bool.false_eq_true, if_false]
  rfl

/-- The poll changes the list of polls and the log alone. -/
theorem poll_form (s : State) : ∃ e, s.poll.2 = { s with ext := e } := by
  unfold State.poll
  split <;> exact ⟨_, rfl⟩

/-- While stopped the buttons are polled, and one pressed schedules UNHALT (60_exceptions.md R358). -/
theorem beginRun_of_stopped {s : State} (h : s.cpu.stopped = true) (n : Nat) : s.beginRun n =
    { s.poll.2 with
      sched := { s.sched with
        endRun := some (s.cc + n)
        unhalt := if s.poll.1 = 0 then s.sched.unhalt else some s.cc }
      ext := { s.poll.2.ext with runStart := s.cc } } := by
  obtain ⟨e, he⟩ := poll_form s
  simp only [State.beginRun, h, if_true, he]
  by_cases hp : s.poll.1 = 0
  · simp only [hp, ne_eq, not_true_eq_false, if_false, if_true]
    rfl
  · simp only [hp, ne_eq, not_false_eq_true, if_true, if_false]
    rfl

/-! ### The step -/

theorem step_answers (s : State) :
    (∃ t, step s = .next t) ∨ ∃ r, s.cannotRun = some r ∧ step s = .refused r := by
  cases hrun : s.sched.endRun with
  | none =>
    cases hc : s.ext.calls with
    | nil => exact .inl ⟨s, step_idle hrun hc⟩
    | cons c rest =>
      rw [step_hostCall hrun hc]
      exact (runHostCall_answers c _).imp_left fun h => ⟨_, h⟩
  | some m =>
    rw [step_runMachine (by rw [hrun]; rfl)]
    unfold runMachine
    cases hr : s.cannotRun with
    | some r => exact .inr ⟨r, rfl, rfl⟩
    | none => exact .inl (runLoop_next s)

/-- How far a halted CPU advances: the whole M-cycles that first reach the deadline (60_exceptions.md R343). -/
theorem haltedAdvance_eq {cc m : Int} (h : cc < m) : ∃ k : Int, 0 < k ∧ haltedAdvance cc m = 4 * k ∧
    m ≤ cc + 4 * k ∧ cc + 4 * (k - 1) < m := by
  refine ⟨(m - cc + 3) / 4, ?_⟩
  unfold haltedAdvance
  omega

/-- Settles O5: with no deadline reached the run loop executes an instruction, and the decoded one is the one run. -/
theorem stepRunsTheDecodedInstruction : Obligations.StepRunsTheDecodedInstruction := by
  intro i rest s hrun hr hh hm hd
  obtain ⟨m, hmin⟩ := Option.isSome_iff_exists.mp (State.runMin_isSome hrun)
  have hlt : s.cc < m := by simpa [hmin, reached] using hm
  rw [step_inRun hrun hr, runLoop_instruction hmin hlt hh, executeInstruction_of_decode hd]

/-- Settles O6: each case of a step answers, and between runs the step is the next host call. -/
theorem stepAnswersUnlessTheInstanceCannotRun : Obligations.StepAnswersUnlessTheInstanceCannotRun := by
  intro c rest n s q
  refine ⟨step_answers s, step_idle, fun hrun hc hne => ?call, fun hrun hc hr => ?runFor⟩
  case call => rw [step_hostCall hrun hc, runHostCall_of_not_runFor hne]
  case runFor =>
    have hr' : q.cannotRun = none := hr
    rw [step_hostCall hrun hc, runHostCall_runFor hr']
    exact ⟨fun hs => congrArg _ (beginRun_of_running (s := q) hs n),
      fun hs => congrArg _ (beginRun_of_stopped (s := q) hs n)⟩

/-- Settles O39: the run loop advances the counter alone. -/
theorem haltedCpuKeepsItsPhase : Obligations.HaltedCpuKeepsItsPhase := by
  intro s m hrun hr hh hmin hlt
  obtain ⟨k, hk, hadv, hreach, hleast⟩ := haltedAdvance_eq hlt
  refine ⟨k, hk, ?_, hreach, hleast⟩
  rw [step_inRun hrun hr, runLoop_halted hmin hlt hh, hadv]
  rfl

end Sys2Proof.Machine
end

section
/-! SUPPORT. Interrupt requests, the INTERRUPTS and UNHALT slots, and the dispatch (60_exceptions.md R345 to R356). -/

namespace Sys2Proof.Machine

/-! ### The pending set -/

theorem pending_getLsbD (s : State) {b : Nat} (h : b < 5) :
    s.pending.getLsbD b = (s.io.ifr.getLsbD b && s.io.ie.getLsbD b) := by
  simp [State.pending, h]

theorem pending_ne_zero_iff (s : State) :
    s.pending ≠ 0 ↔ ∃ b, b < 5 ∧ s.io.ifr.getLsbD b = true ∧ s.io.ie.getLsbD b = true := by
  constructor
  · intro h
    by_contra hn
    refine h (BitVec.eq_of_getLsbD_eq fun b hb => ?_)
    rw [pending_getLsbD s hb, BitVec.ofNat_eq_ofNat, BitVec.getLsbD_zero, ← Bool.not_eq_true, Bool.and_eq_true]
    exact fun ⟨hf, he⟩ => hn ⟨b, hb, hf, he⟩
  · rintro ⟨b, hb, hf, he⟩ h0
    have hbit := pending_getLsbD s hb
    rw [h0, hf, he, BitVec.ofNat_eq_ofNat, BitVec.getLsbD_zero] at hbit
    cases hbit

/-- When `deadline[INTERRUPTS]` is enabled (60_exceptions.md R346). -/
def State.interruptDue (s : State) : Prop :=
  s.cpu.stopped = false ∧ (∃ b, b < 5 ∧ s.io.ifr.getLsbD b = true ∧ s.io.ie.getLsbD b = true) ∧
    (s.cpu.ime = true ∨ s.cpu.halted = true)

theorem interruptDue_iff (s : State) :
    (!s.cpu.stopped && s.pending != 0 && (s.cpu.ime || s.cpu.halted)) = true ↔ s.interruptDue := by
  simp only [State.interruptDue, ← pending_ne_zero_iff, Bool.and_eq_true, Bool.not_eq_true', bne_iff_ne, Bool.or_eq_true,
    and_assoc]

theorem interruptDeadline_of_due {s : State} (h : s.interruptDue) : s.interruptDeadline = some s.cpu.minIntTime :=
  if_pos ((interruptDue_iff s).mpr h)

theorem interruptDeadline_of_not_due {s : State} (h : ¬s.interruptDue) : s.interruptDeadline = none :=
  if_neg (mt (interruptDue_iff s).mp h)

/-- The least set bit is the one with none set below it (60_exceptions.md R349). -/
theorem lowestBit_eq : ∀ (p : BitVec 5) (b : Nat), b < 5 → p.getLsbD b = true →
    (∀ j, j < b → p.getLsbD j = false) →
    lowestBit p = b := by decide

/-! ### The dispatch -/

/-- The saved address: that of the prefetched opcode, if there is one (60_exceptions.md R350). -/
def State.returnAddress (s : State) : Word := if s.cpu.prefetched then s.cpu.pc - 1 else s.cpu.pc

theorem undoPrefetch_eq (s : State) :
    s.undoPrefetch = { s with cpu := { s.cpu with prefetched := false, pc := s.returnAddress } } := by
  unfold State.undoPrefetch State.returnAddress
  cases hp : s.cpu.prefetched with
  | true => rfl
  | false =>
    simp only [Bool.false_eq_true, if_false]
    rw [← hp]

/-- The state after the push of the high byte and the timer's catch-up, in which the pending set is sampled. -/
theorem dispatchHigh_eq (s : State) : s.dispatchHigh =
    let hi := ({ s with cc := s.cc + 8, cpu := { s.cpu with
      prefetched := false, pc := s.returnAddress, ime := false, sp := s.cpu.sp - 1 } }).memWrite (s.cpu.sp - 1)
        (hiByte s.returnAddress)
    hi.timerCatchUp hi.cc := by
  have hcc : s.cc + 4 + 4 = s.cc + 8 := by omega
  simp only [State.dispatchHigh, undoPrefetch_eq, State.setIme, State.tick, State.addCc, State.setSp, hcc]

theorem dispatchHigh_cpu (s : State) : s.dispatchHigh.cpu =
    { s.cpu with prefetched := false, pc := s.returnAddress, ime := false, sp := s.cpu.sp - 1 } := by
  simp only [dispatchHigh_eq, timerCatchUp_cpu, memWrite_cpu]

theorem dispatchHigh_cc (s : State) : s.dispatchHigh.cc = s.cc + 12 := by
  simp only [dispatchHigh_eq, timerCatchUp_cc, memWrite_cc]
  omega

/-- The state after both bytes are pushed. -/
def State.dispatchPushed (s : State) : State :=
  ({ s.dispatchHigh with cpu := { s.dispatchHigh.cpu with sp := s.cpu.sp - 2 } }).memWrite (s.cpu.sp - 2)
    (loByte s.returnAddress)

theorem interruptDispatch_eq (s : State) :
    s.interruptDispatch = (s.dispatchPushed.enterVector s.dispatchHigh.pending).tick.intRecompute := by
  have hsp : s.cpu.sp - 1 - 1 = s.cpu.sp - 2 := by bv_omega
  simp only [State.interruptDispatch, State.dispatchPushed, State.setSp, dispatchHigh_cpu, hsp]

theorem dispatchPushed_cpu (s : State) : s.dispatchPushed.cpu =
    { s.cpu with prefetched := false, pc := s.returnAddress, ime := false, sp := s.cpu.sp - 2 } := by
  rw [State.dispatchPushed, memWrite_cpu, dispatchHigh_cpu]

theorem dispatchPushed_cc (s : State) : s.dispatchPushed.cc = s.cc + 16 := by
  simp only [State.dispatchPushed, memWrite_cc, dispatchHigh_cc]
  omega

/-- The choice of the vector sets `pc` and clears a bit of `IF`. -/
theorem enterVector_form (p : BitVec 5) (s : State) : ∃ a i, s.enterVector p =
    { s with cpu := { s.cpu with pc := a }, io := { s.io with ifr := i } } := by
  unfold State.enterVector
  split_ifs
  · exact ⟨_, s.io.ifr, rfl⟩
  · exact ⟨_, _, rfl⟩

theorem interruptDispatch_cpu (s : State) : { s.interruptDispatch.cpu with pc := s.returnAddress } =
    { s.cpu with prefetched := false, pc := s.returnAddress, ime := false, sp := s.cpu.sp - 2 } := by
  obtain ⟨a, i, h⟩ := enterVector_form s.dispatchHigh.pending s.dispatchPushed
  simp only [interruptDispatch_eq, State.intRecompute_cpu, State.tick_cpu, h, dispatchPushed_cpu]

theorem interruptDispatch_cc (s : State) : s.interruptDispatch.cc = s.cc + 20 := by
  obtain ⟨a, i, h⟩ := enterVector_form s.dispatchHigh.pending s.dispatchPushed
  simp only [interruptDispatch_eq, State.intRecompute_cc, State.tick_cc, h, dispatchPushed_cc]
  omega

theorem enterVector_of_none {p : BitVec 5} (h : p = 0) (s : State) : s.enterVector p = s.setPc 0x0000 := if_pos h

theorem enterVector_of_lowest {p : BitVec 5} {b : Nat} (hb : b < 5) (hset : p.getLsbD b = true)
    (hlow : ∀ j, j < b → p.getLsbD j = false) (s : State) :
    s.enterVector p = ({ s with io := { s.io with ifr := clearBit b s.io.ifr } }).setPc (vector b) := by
  have hp : p ≠ 0 := by
    rintro rfl
    rw [BitVec.ofNat_eq_ofNat, BitVec.getLsbD_zero] at hset
    cases hset
  rw [State.enterVector, if_neg hp, lowestBit_eq p b hb hset hlow]

theorem vector_toNat {b : Nat} (hb : b < 5) : (vector b).toNat = 0x40 + 8 * b := by
  rw [vector, BitVec.toNat_ofNat]
  omega

/-! ### The slots -/

theorem wake_eq (s : State) : s.wake =
    if s.cpu.halted then
      { s with
        cc := s.cc + s.params.haltWakeDelay
        cpu := { s.cpu with halted := false }
        sched := { s.sched with unhalt := none } }
    else s := rfl

theorem wake_ime (s : State) : s.wake.cpu.ime = s.cpu.ime := by
  rw [wake_eq]
  split_ifs <;> rfl

theorem wake_sp (s : State) : s.wake.cpu.sp = s.cpu.sp := by
  rw [wake_eq]
  split_ifs <;> rfl

theorem wake_cc (s : State) : s.wake.cc = s.cc + (if s.cpu.halted then (s.params.haltWakeDelay : Int) else 0) := by
  rw [wake_eq]
  split_ifs
  · rfl
  · exact (add_zero _).symm

theorem fireInterrupts_eq (s : State) :
    s.fire .interrupts = (if s.cpu.ime then s.wake.interruptDispatch else s.wake).intRecompute := by
  simp only [State.fire, State.fireInterrupts, wake_ime]

/-- At the end of a stop the devices are told, and the CPU is as it was but for `stopped` (60_exceptions.md R356). -/
theorem endStop_eq (s : State) : s.endStop =
    let d := s.cc - s.cpu.stopStart
    let e := ({ s with
      sched := s.sched.delayDevices d
      dma := { s.dma with last := s.dma.last.map (· + d) }
      timer := { s.timer with divBase := s.cc, timaLast := s.cc } }).extResume d
    ({ e with cpu := { s.cpu with stopped := false } }).timaReschedule := by
  simp only [State.endStop, State.extResume, (steady_callExt _ _ _).cpu]

/-! ### The statements -/

/-- Settles O36: what the dispatch saves and where it goes, from the state in which the pending set is sampled. -/
theorem interruptDispatchEntersTheVector : Obligations.InterruptDispatchEntersTheVector := by
  intro s ret hi0 hi lo t
  have hhi : s.dispatchHigh = hi := dispatchHigh_eq s
  have hlo : s.dispatchPushed = lo := by rw [State.dispatchPushed, hhi]; rfl
  have ht : t = (lo.enterVector hi.pending).tick.intRecompute := by rw [← hhi, ← hlo]; exact interruptDispatch_eq s
  obtain ⟨a, i, hform⟩ := enterVector_form hi.pending lo
  refine ⟨interruptDispatch_cc s, by rw [ht, hform]; rfl, by rw [ht]; rfl, interruptDispatch_cpu s, ?none, ?lowest⟩
  case none =>
    intro hp
    rw [ht, enterVector_of_none hp]
    exact ⟨rfl, rfl⟩
  case lowest =>
    intro b hb hset hlow
    rw [ht, enterVector_of_lowest hb hset hlow]
    exact ⟨vector_toNat hb, rfl⟩

/-- Settles O35: the deadline is a function of the enabled pending bits, `ime` and the halt. -/
theorem interruptSlotIsAFunctionOfTheState : Obligations.InterruptSlotIsAFunctionOfTheState := by
  intro bits s
  refine ⟨rfl, fun h => ?due, fun h => ?notDue⟩
  case due => rw [State.intRecompute, interruptDeadline_of_due h]; rfl
  case notDue => rw [State.intRecompute, interruptDeadline_of_not_due h]; rfl

/-- Settles O37: waking keeps `ime`, which decides the dispatch. -/
theorem interruptsSlotWakesAndDispatches : Obligations.InterruptsSlotWakesAndDispatches := by
  intro s w
  have hw : w = s.wake := (wake_eq s).symm
  rw [hw, fireInterrupts_eq]

/-- Settles O40: the end of a stop, then the wake. -/
theorem unhaltEndsTheStop : Obligations.UnhaltEndsTheStop := by
  intro s d shift e wakeUp
  refine ⟨fun hs => ?stopped, fun hs => ?running⟩
  case stopped =>
    rw [State.fire, State.fireUnhalt, if_pos hs, endStop_eq]
    rfl
  case running =>
    rw [State.fire, State.fireUnhalt, if_neg (by rw [hs]; exact Bool.false_ne_true)]

end Sys2Proof.Machine
end

section
/-! SUPPORT. The scheduler: which slot fires, what a fired slot does, the rebase and the end of a run
(61_scheduler.md R400 to R411). -/

namespace Sys2Proof.Machine

open Sys2Proof.Family

/-! ### Reached deadlines -/

theorem reached_eq_true_iff {t : Option Int} {cc : Int} : reached t cc = true ↔ ∃ x, t = some x ∧ x ≤ cc := by
  cases t <;> simp [reached]

theorem reached_minDeadline (x y : Option Int) (cc : Int) :
    reached (minDeadline x y) cc = (reached x cc || reached y cc) := by
  cases x <;> cases y <;> simp [minDeadline, reached]

/-- `RunMin` is reached when INTERRUPTS is due and the CPU is not stopped. -/
theorem reached_runMin_of_interrupts {s : State} {m : Int} (hs : s.cpu.stopped = false)
    (h : s.sched.interrupts = some m) (hm : m ≤ s.cc) : reached s.runMin s.cc = true := by
  have hi : reached s.sched.interrupts s.cc = true := reached_eq_true_iff.mpr ⟨m, h, hm⟩
  simp only [State.runMin, hs, Bool.false_eq_true, if_false, Deadlines.minimum, reached_minDeadline, hi, Bool.or_true]

/-! ### The next slot -/

theorem firstDue_eq_none_iff {d : Deadlines} {cc : Int} {l : List Slot} :
    firstDue d cc l = none ↔ ∀ sl ∈ l, reached (d.time sl) cc = false := by
  induction l with
  | nil => simp [firstDue]
  | cons sl l ih =>
    rw [List.forall_mem_cons, ← ih, firstDue]
    cases d.time sl <;> cases firstDue d cc l <;> simp [reached]
    split_ifs <;> simp

/-- Of a list in index order the slot chosen has the least deadline of those due and, among equals, the least index. -/
theorem firstDue_least {d : Deadlines} {cc : Int} {l : List Slot} (hl : l.Pairwise (slotIndex · < slotIndex ·))
    {p : Slot × Int} (hp : firstDue d cc l = some p) {sl : Slot} {y : Int} (hsl : sl ∈ l) (hy : d.time sl = some y)
    (hdue : y ≤ cc) : p.2 ≤ y ∧ (p.2 = y → slotIndex p.1 ≤ slotIndex sl) := by
  induction l generalizing p with
  | nil => cases hsl
  | cons a l ih =>
    obtain ⟨hhead, htail⟩ := List.pairwise_cons.mp hl
    have hrest (h : sl ≠ a) : sl ∈ l := (List.mem_cons.mp hsl).resolve_left h
    rw [firstDue] at hp
    split at hp
    case h_1 ha =>
      refine ih htail hp (hrest ?_)
      rintro rfl
      cases ha.symm.trans hy
    case h_2 t ha hnone =>
      split_ifs at hp
      cases hp
      have hsa : sl = a := by
        by_contra hne
        exact Bool.false_ne_true ((firstDue_eq_none_iff.mp hnone sl (hrest hne)).symm.trans
          (reached_eq_true_iff.mpr ⟨y, hy, hdue⟩))
      subst hsa
      cases ha.symm.trans hy
      exact ⟨le_rfl, fun _ => le_rfl⟩
    case h_3 t sl' t' ha hsome =>
      by_cases hsa : sl = a
      · subst hsa
        cases ha.symm.trans hy
        split_ifs at hp with hle
        · cases hp
          exact ⟨le_rfl, fun _ => le_rfl⟩
        · cases hp
          have hlt : t' < y := by omega
          exact ⟨hlt.le, fun h => absurd h hlt.ne⟩
      · obtain ⟨hle', hidx⟩ := ih htail hsome (hrest hsa)
        split_ifs at hp with hle
        · cases hp
          exact ⟨hle.2.trans hle', fun _ => (hhead sl (hrest hsa)).le⟩
        · cases hp
          exact ⟨hle', hidx⟩

theorem candidates_sorted (s : State) : s.candidates.Pairwise (slotIndex · < slotIndex ·) := by
  unfold State.candidates
  split_ifs <;> decide

theorem mem_candidates_iff {s : State} {sl : Slot} :
    sl ∈ s.candidates ↔ sl ≠ .endRun ∧ (s.cpu.stopped = true → sl = .unhalt) := by
  unfold State.candidates
  cases s.cpu.stopped <;> cases sl <;> simp

/-- A slot that can be chosen before END: one whose deadline is reached, while stopped UNHALT alone
(60_exceptions.md R357, 61_scheduler.md R405). -/
def State.slotDue (s : State) (sl : Slot) : Prop :=
  sl ≠ .endRun ∧ (s.cpu.stopped = true → sl = .unhalt) ∧ ∃ x, s.sched.time sl = some x ∧ x ≤ s.cc

theorem slotDue_iff {s : State} {sl : Slot} :
    s.slotDue sl ↔ sl ∈ s.candidates ∧ ∃ x, s.sched.time sl = some x ∧ x ≤ s.cc := by
  rw [mem_candidates_iff, and_assoc]
  rfl

/-- With a slot due, the next slot is a due one with the least deadline and, among equals, the least index. -/
theorem nextSlot_of_due {s : State} {sl : Slot} (h : s.slotDue sl) : ∃ x, s.sched.time s.nextSlot = some x ∧
    s.slotDue s.nextSlot ∧
    ∀ y, s.sched.time sl = some y → x ≤ y ∧ (x = y → slotIndex s.nextSlot ≤ slotIndex sl) := by
  obtain ⟨hmem, y, hy, hdue⟩ := slotDue_iff.mp h
  cases hf : firstDue s.sched s.cc s.candidates with
  | none =>
    exact absurd ((firstDue_eq_none_iff.mp hf sl hmem).symm.trans (reached_eq_true_iff.mpr ⟨y, hy, hdue⟩))
      Bool.false_ne_true
  | some p =>
    have hnext : s.nextSlot = p.1 := by simp only [State.nextSlot, hf]
    obtain ⟨hp, htime, hle⟩ := firstDue_spec _ _ _ _ hf
    rw [hnext]
    refine ⟨p.2, htime, slotDue_iff.mpr ⟨hp, p.2, htime, hle⟩, fun z hz => ?_⟩
    cases hy.symm.trans hz
    exact firstDue_least (candidates_sorted s) hf hmem hy hdue

theorem nextSlot_of_none_due {s : State} (h : ∀ sl, ¬s.slotDue sl) : s.nextSlot = .endRun := by
  have hf : firstDue s.sched s.cc s.candidates = none := by
    refine firstDue_eq_none_iff.mpr fun sl hsl => ?_
    by_contra hr
    exact h sl (slotDue_iff.mpr ⟨hsl, reached_eq_true_iff.mp (Bool.not_eq_false _ ▸ hr)⟩)
  simp only [State.nextSlot, hf]

/-- The only due slot is the next one. -/
theorem nextSlot_of_only_due {s : State} {sl : Slot} (h : s.slotDue sl) (honly : ∀ a, s.slotDue a → a = sl) :
    s.nextSlot = sl := by
  obtain ⟨x, -, hdue, -⟩ := nextSlot_of_due h
  exact honly _ hdue

/-! ### A fired device slot -/

theorem lateOrDisabled_eq (cc : Int) (t : Option Int) : lateOrDisabled cc t = t.filter (fun y => cc < y) := by
  cases t with
  | none => rfl
  | some x => by_cases h : x ≤ cc <;> simp [lateOrDisabled, reached, h, Option.filter, not_lt.mpr, lt_of_not_ge]

theorem lateOrDisabled_gt {cc y : Int} {t : Option Int} (h : lateOrDisabled cc t = some y) : cc < y := by
  rw [lateOrDisabled_eq, Option.filter_eq_some_iff] at h
  simpa using h.2

/-- The state in which a device's handler is called: its slot is disabled. -/
def State.readyToFire (x : ExtSlot) (s : State) : State := s.setSlot x.slot none

/-- The state after the call of the handler of a fired slot. -/
def State.fireCalled (x : ExtSlot) (s : State) : State :=
  ((s.readyToFire x).callExt (x = .hdma) (.fire x s.cc)).2

theorem fire_extSlot (x : ExtSlot) (s : State) : s.fire x.slot =
    (s.fireCalled x).setSlot x.slot (lateOrDisabled s.cc ((s.fireCalled x).sched.time x.slot)) := by
  cases x <;> rfl

/-- What a call of a handler leaves alone (20_memory.md R112): all but `IF`, the device slots with INTERRUPTS, VRAM and
the lists of the outside. -/
theorem callExt_frame (hdma : Bool) (ev : ExtEvent) (s : State) : ∃ i d m e, (s.callExt hdma ev).2 =
    { s with io := { s.io with ifr := i }, sched := d, mem := { s.mem with vram := m }, ext := e } ∧
      d.unhalt = s.sched.unhalt ∧ d.endRun = s.sched.endRun ∧ d.oamDma = s.sched.oamDma ∧ d.tima = s.sched.tima ∧
      e.log = ev :: s.ext.log := by
  have h := callExt_handlerDoes hdma ev s
  unfold handlerDoes at h
  split at h
  · exact ⟨s.io.ifr, s.sched, s.mem.vram, _, h, rfl, rfl, rfl, rfl, rfl⟩
  · exact ⟨_, _, _, _, h.1, rfl, rfl, rfl, rfl, rfl⟩

section
variable (x : ExtSlot) (s : State)

theorem fire_extSlot_frame :
    let t := s.fire x.slot
    t.cc = s.cc ∧ t.cpu = s.cpu ∧ t.timer = s.timer ∧ t.bus = s.bus ∧ t.mapper = s.mapper ∧ t.rtc = s.rtc ∧
    t.dma = s.dma ∧ t.sched.unhalt = s.sched.unhalt ∧ t.sched.endRun = s.sched.endRun ∧
    t.sched.oamDma = s.sched.oamDma ∧ t.sched.tima = s.sched.tima ∧
    (∀ st, st ≠ .vram → t.mem.get st = s.mem.get st) ∧ t.ext.log = .fire x s.cc :: s.ext.log := by
  obtain ⟨i, d, m, e, hu, hunhalt, hend, hoam, htima, hlog⟩ :=
    callExt_frame (x = .hdma) (.fire x s.cc) (s.readyToFire x)
  rw [fire_extSlot, State.fireCalled, hu]
  refine ⟨rfl, rfl, rfl, rfl, rfl, rfl, rfl, ?_, ?_, ?_, ?_, fun st hst => ?_, hlog⟩
  · cases x <;> exact hunhalt
  · cases x <;> exact hend
  · cases x <;> exact hoam
  · cases x <;> exact htima
  · cases st with
    | vram => exact absurd rfl hst
    | rom | sram | wram | oam | oamx | hram => rfl

theorem fire_extSlot_mem (h : x ≠ .hdma) : (s.fire x.slot).mem = s.mem := by
  rw [fire_extSlot, State.fireCalled, decide_eq_false h]
  exact callExt_mem _ _

/-- With no device a fired slot is disabled, and nothing else changes but the log. -/
theorem fire_extSlot_of_no_answer (h : s.ext.answers = []) :
    s.fire x.slot = (s.setSlot x.slot none).logEvent (.fire x s.cc) := by
  have hr : (s.readyToFire x).ext.answers = [] := h
  rw [fire_extSlot, State.fireCalled, State.callExt_nil hr]
  cases x <;> rfl

theorem fire_extSlot_of_answer {ans : ExtAnswer} {r : List ExtAnswer} (h : s.ext.answers = ans :: r) :
    (s.fire x.slot).io = { s.io with ifr := s.io.ifr ||| ans.irq } ∧ (s.fire x.slot).ext.answers = r ∧
    (ans.sets = [] → (s.fire x.slot).sched.time x.slot = none) := by
  have hr : (s.readyToFire x).ext.answers = ans :: r := h
  rw [fire_extSlot, State.fireCalled, State.callExt_cons hr, applyAnswer_form]
  refine ⟨rfl, rfl, fun hsets => ?_⟩
  rw [hsets]
  cases x <;> rfl

end

/-! ### The rebase and the end of a run -/

/-- The state after the catch-ups of a rebase (61_scheduler.md R410). -/
def State.caughtUp (s : State) : State := ((s.timerCatchUp s.cc).dmaCatchUp s.cc).rtcAdvance s.cc

theorem rebase_eq (s : State) :
    s.rebase = (s.caughtUp.lowerStamps rebaseDelta).logEvent (.rebased rebaseDelta) := rfl

theorem steady_caughtUp (s : State) : Steady s s.caughtUp :=
  ((steady_timerCatchUp _ s).trans (steady_dmaCatchUp _ _)).trans (steady_rtcAdvance _ _)

theorem timerCatchUp_mapper (t : Int) (s : State) : (s.timerCatchUp t).mapper = s.mapper := by
  simp only [State.timerCatchUp, State.timerCount]
  split_ifs <;> rfl

theorem dmaCatchUp_form (t : Int) (s : State) :
    ∃ o d e q, s.dmaCatchUp t = { s with mem := { s.mem with oam := o }, dma := d, ext := e, sched := q } := by
  obtain ⟨o, d, e, h⟩ := dmaSteps_form (s.dmaDue t) s
  unfold State.dmaCatchUp
  split_ifs
  · exact ⟨s.mem.oam, s.dma, s.ext, s.sched, rfl⟩
  · rw [h]
    exact ⟨o, d, e, _, rfl⟩

theorem caughtUp_mapper (s : State) : s.caughtUp.mapper = s.mapper := by
  obtain ⟨r, e, hr⟩ := rtcAdvance_form ((s.timerCatchUp s.cc).dmaCatchUp s.cc) s.cc
  obtain ⟨o, d, e', q, hd⟩ := dmaCatchUp_form s.cc (s.timerCatchUp s.cc)
  rw [State.caughtUp, hr, hd]
  exact timerCatchUp_mapper s.cc s

theorem rebase_time (d : Int) (q : Deadlines) (sl : Slot) :
    (q.rebase d).time sl = (q.time sl).map (fun x => x - d) := by
  cases sl <;> rfl

/-- Lowering every stamp alike changes no difference of stamps. -/
theorem lowerStamps_differences (d : Int) (s : State) :
    let t := s.lowerStamps d
    t.timer.div t.cc = s.timer.div s.cc ∧ t.openBus = s.openBus ∧ t.dmaDue t.cc = s.dmaDue s.cc ∧
    t.rtcElapsed t.cc = s.rtcElapsed s.cc := by
  have hsub (a b : Int) : a - d - (b - d) = a - b := by omega
  have hbus : s.cc - d < s.bus.time - d + s.params.pullupDelay ↔ s.cc < s.bus.time + s.params.pullupDelay := by omega
  refine ⟨?_, ?_, ?_, ?_⟩
  · simp only [State.lowerStamps, Timer.div, hsub]
  · simp only [State.lowerStamps, State.openBus, hbus]
  · cases hl : s.dma.last <;> simp [State.lowerStamps, State.dmaDue, hl, hsub]
  · exact congrArg (fun x : Int => x.toNat * (if s.cpu.doubleSpeed then 1 else 2)) (hsub s.cc s.rtc.last)

/-! ### The statements -/

/-- Settles O38: INTERRUPTS is the only slot due, so it fires, wakes a halted CPU and dispatches. -/
theorem stepTakesADueInterrupt : Obligations.StepTakesADueInterrupt := by
  intro s m hrun hr hs hime hint hm honly
  have hdue : s.slotDue .interrupts := ⟨nofun, fun h => absurd (hs.symm.trans h) Bool.false_ne_true, m, hint, hm⟩
  have hnext : s.nextSlot = .interrupts := by
    refine nextSlot_of_only_due hdue fun a ⟨hend, _, x, hx, hle⟩ => ?_
    by_contra hne
    exact Bool.false_ne_true ((honly a hne hend).symm.trans (reached_eq_true_iff.mpr ⟨x, hx, hle⟩))
  have hfire : s.fire .interrupts = s.wake.interruptDispatch.intRecompute := by
    rw [fireInterrupts_eq, if_pos hime]
  have hcpu := interruptDispatch_cpu s.wake
  refine ⟨?_, ?_, ?_, ?_⟩
  · rw [step_inRun hrun hr, runLoop_slot (reached_runMin_of_interrupts hs hint hm), hnext]
  · rw [hfire]
    exact congrArg Cpu.ime hcpu
  · rw [hfire]
    exact (congrArg Cpu.sp hcpu).trans (congrArg (· - 2) (wake_sp s))
  · rw [hfire, State.intRecompute_cc, interruptDispatch_cc, wake_cc]
    omega

/-- Settles O41: the order by the choice of the next slot, the effects by the call of a fired slot's handler. -/
theorem nextSlotFollowsTheFixedOrder : Obligations.NextSlotFollowsTheFixedOrder := by
  intro s due
  refine ⟨nextSlot_of_none_due, fun sl x y hdue hx hy => ?least, fun sl hdue => ?some,
    fun hrun hr hreached => by rw [step_inRun hrun hr, runLoop_slot hreached], rfl, rfl, fun x => ?ext,
    fun d => callExt_handlerDoes false _ s⟩
  case least =>
    obtain ⟨x', hx', hnext, hleast⟩ := nextSlot_of_due hdue
    cases hx.symm.trans hx'
    exact ⟨hnext, hleast y hy⟩
  case some =>
    obtain ⟨x, hx, -⟩ := nextSlot_of_due hdue
    exact ⟨x, hx⟩
  case ext =>
    obtain ⟨hcc, hcpu, htimer, hbus, hmapper, hrtc, hdma, hunhalt, hend, hoam, htima, hmem, hlog⟩ :=
      fire_extSlot_frame x s
    refine ⟨fun y hy => ?late, hcc, hcpu, htimer, hbus, hmapper, hrtc, hdma, hunhalt, hend, hoam, htima, hmem,
      fire_extSlot_mem x s, hlog, fun h => ?none, fun ans r h => fire_extSlot_of_answer x s h,
      ⟨s.fireCalled x, callExt_handlerDoes _ _ _, ?does⟩⟩
    case late =>
      rw [fire_extSlot] at hy
      exact lateOrDisabled_gt ((Deadlines.time_set_self _ _ _).symm.trans hy)
    case none =>
      rw [fire_extSlot_of_no_answer x s h]
      exact ⟨rfl, rfl, rfl⟩
    case does =>
      rw [fire_extSlot, lateOrDisabled_eq]
      rfl

/-- Settles O42: the delta goes from every stamp, and from no difference of stamps. -/
theorem rebaseLowersEveryStampAlike : Obligations.RebaseLowersEveryStampAlike := by
  intro s d c t
  have hc : c = s.caughtUp := rfl
  have ht : t = (c.lowerStamps d).logEvent (.rebased d) := rebase_eq s
  obtain ⟨hcc, hcpu, -⟩ := steady_caughtUp s
  rw [← hc] at hcc hcpu
  obtain ⟨hdiv, hopen, hdue, helapsed⟩ := lowerStamps_differences d c
  rw [ht]
  refine ⟨congrArg (· - d) hcc, rebase_time d c.sched, rfl, rfl, rfl, rfl, ?cpu, rfl, rfl, caughtUp_mapper s,
    hcc ▸ hdiv, hopen, hcc ▸ hdue, hcc ▸ helapsed, rfl⟩
  case cpu =>
    rw [← hcpu]
    rfl

end Sys2Proof.Machine
end

section
/-! SUPPORT. The timer: its catch-up as one update, counting in parts, and the tick of the overflow (60_exceptions.md R360,
R367, R368). -/

namespace Sys2Proof.Machine

/-! ### Ticks -/

theorem timerPeriod_eq (tac : BitVec 3) : timerPeriod tac = [1024, 16, 64, 256].getD (tac.toNat % 4) 0 := by
  revert tac
  decide

theorem timerPeriod_pos (tac : BitVec 3) : 0 < timerPeriod tac := by
  revert tac
  decide

section
variable (tm : Timer)

/-- The number of the tick at or before a cycle, counted from the divider's base (60_exceptions.md R360). -/
def Timer.tickNumber (t : Int) : Int := (t - tm.divBase) / timerPeriod tm.tac

theorem Timer.ticks_eq (t : Int) : tm.ticks t = (tm.tickNumber t - tm.tickNumber tm.timaLast).toNat := rfl

theorem Timer.overflowAt_eq : tm.overflowAt =
    tm.divBase + (tm.tickNumber tm.timaLast + (0x100 - (tm.tima.toNat : Int))) * timerPeriod tm.tac := rfl

variable {tm}

theorem Timer.tickNumber_mono {t u : Int} (h : t ≤ u) : tm.tickNumber t ≤ tm.tickNumber u :=
  Int.ediv_le_ediv (timerPeriod_pos tm.tac) (by omega)

theorem Timer.cast_ticks {t : Int} (h : tm.timaLast ≤ t) :
    (tm.ticks t : Int) = tm.tickNumber t - tm.tickNumber tm.timaLast := by
  have := Timer.tickNumber_mono (tm := tm) h
  rw [Timer.ticks_eq]
  omega

/-- The ticks up to `u` are those up to `t` and those from `t` on. -/
theorem Timer.ticks_add {t u : Int} (ht : tm.timaLast ≤ t) (hu : t ≤ u) (v : Byte) :
    tm.ticks u = tm.ticks t + { tm with tima := v, timaLast := t }.ticks u := by
  have h1 := Timer.tickNumber_mono (tm := tm) ht
  have h2 := Timer.tickNumber_mono (tm := tm) hu
  have h3 : { tm with tima := v, timaLast := t }.ticks u = (tm.tickNumber u - tm.tickNumber t).toNat := rfl
  rw [h3, Timer.ticks_eq, Timer.ticks_eq]
  omega

/-- The deadline is reached once the ticks fill TIMA (60_exceptions.md R368). -/
theorem Timer.overflowAt_le_iff {t : Int} (h : tm.timaLast ≤ t) :
    tm.overflowAt ≤ t ↔ 0x100 ≤ tm.tima.toNat + tm.ticks t := by
  have hle := Int.le_ediv_iff_mul_le (a := tm.tickNumber tm.timaLast + (0x100 - (tm.tima.toNat : Int)))
    (b := t - tm.divBase) (timerPeriod_pos tm.tac)
  have hticks := Timer.cast_ticks h
  unfold Timer.tickNumber at hticks hle
  rw [Timer.overflowAt_eq, Timer.tickNumber]
  omega

/-- At the deadline the ticks fill TIMA exactly. -/
theorem Timer.ticks_overflowAt (h : tm.timaLast ≤ tm.overflowAt) : tm.tima.toNat + tm.ticks tm.overflowAt = 0x100 := by
  have hnum : tm.tickNumber tm.overflowAt = tm.tickNumber tm.timaLast + (0x100 - (tm.tima.toNat : Int)) := by
    rw [Timer.overflowAt_eq, Timer.tickNumber, add_sub_cancel_left]
    exact Int.mul_ediv_cancel _ (timerPeriod_pos tm.tac).ne'
  have hticks := Timer.cast_ticks h
  omega

theorem Timer.timaLast_lt_overflowAt : tm.timaLast < tm.overflowAt := by
  have hlt := Int.lt_ediv_add_one_mul_self (tm.timaLast - tm.divBase) (timerPeriod_pos tm.tac)
  have hle : (tm.tickNumber tm.timaLast + 1) * timerPeriod tm.tac ≤
      (tm.tickNumber tm.timaLast + (0x100 - (tm.tima.toNat : Int))) * timerPeriod tm.tac :=
    Int.mul_le_mul_of_nonneg_right (by have := tm.tima.isLt; omega) (timerPeriod_pos tm.tac).le
  rw [Timer.overflowAt_eq]
  unfold Timer.tickNumber at hle ⊢
  omega

end

/-! ### TIMA after a number of ticks -/

theorem timaAfter_add (tma : Byte) (m n : Nat) (v : Byte) : timaAfter tma (m + n) v =
    ((timaAfter tma n (timaAfter tma m v).1).1, (timaAfter tma m v).2 || (timaAfter tma n (timaAfter tma m v).1).2) := by
  induction n with
  | zero => simp [timaAfter]
  | succ n ih =>
    rw [← add_assoc, timaAfter, ih, timaAfter]
    split_ifs <;> simp

/-- Before it is full TIMA only counts. -/
theorem timaAfter_of_lt (tma : Byte) {n : Nat} {v : Byte} (h : v.toNat + n < 0x100) :
    (timaAfter tma n v).1.toNat = v.toNat + n ∧ (timaAfter tma n v).2 = false := by
  induction n with
  | zero => exact ⟨rfl, rfl⟩
  | succ n ih =>
    obtain ⟨hv, hover⟩ := ih (by omega)
    have hne : (timaAfter tma n v).1 ≠ 0xFF#8 := by
      intro hff
      rw [hff] at hv
      have : (0xFF#8).toNat = 255 := rfl
      omega
    rw [timaAfter, if_neg hne]
    refine ⟨?_, hover⟩
    rw [BitVec.toNat_add, hv]
    exact Nat.mod_eq_of_lt h

/-- The tick that fills TIMA reloads it and requests (60_exceptions.md R367). -/
theorem timaAfter_of_eq (tma : Byte) {n : Nat} {v : Byte} (h : v.toNat + n = 0x100) :
    timaAfter tma n v = (tma, true) := by
  obtain ⟨k, rfl⟩ : ∃ k, n = k + 1 := Nat.exists_eq_succ_of_ne_zero (by have := v.isLt; omega)
  obtain ⟨hv, -⟩ := timaAfter_of_lt tma (n := k) (v := v) (by omega)
  have hff : (timaAfter tma k v).1 = 0xFF#8 := BitVec.eq_of_toNat_eq (by rw [hv]; exact Nat.succ_inj.mp h)
  rw [timaAfter, if_pos hff]

theorem timaAfter_of_ge (tma : Byte) {n : Nat} {v : Byte} (h : 0x100 ≤ v.toNat + n) : (timaAfter tma n v).2 = true := by
  have hv := v.isLt
  obtain ⟨k, rfl⟩ := Nat.exists_eq_add_of_le (show 0x100 - v.toNat ≤ n by omega)
  have hfull : timaAfter tma (0x100 - v.toNat) v = (tma, true) := timaAfter_of_eq tma (by omega)
  rw [timaAfter_add, hfull]
  rfl

/-! ### The catch-up -/

section
variable (s : State)

/-- What the ticks up to `t` make of TIMA, and whether it overflows; a disabled timer makes none. -/
def State.timaResult (t : Int) : Byte × Bool :=
  if timerEnabled s.timer.tac then timaAfter s.timer.tma (s.timer.ticks t) s.timer.tima else (s.timer.tima, false)

/-- The timer caught up to `t` with a result. -/
def State.timed (r : Byte × Bool) (t : Int) : State :=
  let u := { s with timer := { s.timer with tima := r.1, timaLast := t } }
  (if r.2 then u.requestTimerIrq else u).timaReschedule

variable {s}

theorem timerCount_eq (t : Int) : s.timerCount t =
    let u := { s with timer := { s.timer with tima := (s.timaResult t).1 } }
    if (s.timaResult t).2 then u.requestTimerIrq else u := by
  by_cases he : timerEnabled s.timer.tac = true
  · simp only [State.timerCount, State.timaResult, if_pos he]
  · simp only [State.timerCount, State.timaResult, if_neg he, Bool.false_eq_true, if_false]

theorem timerCatchUp_eq {t : Int} (hs : s.cpu.stopped = false) (ht : s.timer.timaLast < t) :
    s.timerCatchUp t = s.timed (s.timaResult t) t := by
  have hnot : ¬(s.cpu.stopped = true ∨ t ≤ s.timer.timaLast) := by
    rw [hs]
    exact fun h => h.elim Bool.false_ne_true (by omega)
  simp only [State.timerCatchUp, if_neg hnot, timerCount_eq]
  obtain ⟨v, full⟩ := s.timaResult t
  cases full <;> rfl

theorem timerCatchUp_of_le {t : Int} (ht : t ≤ s.timer.timaLast) : s.timerCatchUp t = s := if_pos (.inr ht)

theorem timerCatchUp_of_stopped (hs : s.cpu.stopped = true) (t : Int) : s.timerCatchUp t = s := if_pos (.inl hs)

theorem timed_timer (r : Byte × Bool) (t : Int) :
    (s.timed r t).timer = { s.timer with tima := r.1, timaLast := t } := by
  simp only [State.timed]
  split_ifs <;> rfl

theorem timed_io (r : Byte × Bool) (t : Int) :
    (s.timed r t).io = if r.2 then { s.io with ifr := s.io.ifr ||| 0x04 } else s.io := by
  simp only [State.timed]
  split_ifs <;> rfl

/-- A second request of an interrupt changes nothing. -/
theorem requestIrqs_twice (b : BitVec 5) : (s.requestIrqs b).requestIrqs b = s.requestIrqs b := by
  have h : s.io.ifr ||| b ||| b = s.io.ifr ||| b := by rw [BitVec.or_assoc, BitVec.or_self]
  simp only [State.requestIrqs, State.setIf, State.intRecompute_io, h]
  rfl

theorem timed_timed (r q : Byte × Bool) (t u : Int) : (s.timed r t).timed q u = s.timed (q.1, r.2 || q.2) u := by
  obtain ⟨v, a⟩ := r
  obtain ⟨w, b⟩ := q
  cases a <;> cases b <;> try rfl
  exact congrArg (fun x : State => { x with timer := { s.timer with tima := w, timaLast := u } }.timaReschedule)
    (requestIrqs_twice (s := s) 0x04#5)

theorem timaResult_timed {t u : Int} (ht : s.timer.timaLast ≤ t) (hu : t ≤ u) :
    s.timaResult u = (((s.timed (s.timaResult t) t).timaResult u).1,
      (s.timaResult t).2 || ((s.timed (s.timaResult t) t).timaResult u).2) := by
  simp only [State.timaResult, timed_timer]
  split_ifs
  · rw [Timer.ticks_add ht hu, timaAfter_add]
  · rfl

end

/-! ### The statements -/

/-- Settles O52: the ticks of the two parts are the ticks of the whole. -/
theorem timerCatchUpIsAdditive : Obligations.TimerCatchUpIsAdditive := by
  intro t1 t2 s h
  by_cases hs : s.cpu.stopped = true
  · rw [timerCatchUp_of_stopped hs]
  rw [Bool.not_eq_true] at hs
  obtain ht | ht := le_or_gt t1 s.timer.timaLast
  · rw [timerCatchUp_of_le ht]
  have hs1 : (s.timerCatchUp t1).cpu.stopped = false := by rw [timerCatchUp_cpu, hs]
  have hlast : (s.timerCatchUp t1).timer.timaLast = t1 := by rw [timerCatchUp_eq hs ht, timed_timer]
  obtain rfl | hlt := h.eq_or_lt
  · exact timerCatchUp_of_le hlast.ge
  · rw [timerCatchUp_eq hs1 (hlast.trans_lt hlt), timerCatchUp_eq hs ht, timed_timed, ← timaResult_timed ht.le h,
      ← timerCatchUp_eq hs (ht.trans hlt)]

/-- Settles O53: TIMA overflows at the tick that fills it, which is the deadline. -/
theorem timaOverflowsAtItsDeadline : Obligations.TimaOverflowsAtItsDeadline := by
  intro t s hs he ht p n due
  have hp : p = timerPeriod s.timer.tac := (timerPeriod_eq _).symm
  have hn : n = s.timer.ticks t := by rw [Timer.cast_ticks ht.le]; simp only [n, hp]; rfl
  have hdue : due = s.timer.overflowAt := by simp only [due, hp]; rfl
  have hres : s.timaResult t = timaAfter s.timer.tma (s.timer.ticks t) s.timer.tima := if_pos he
  have hle := Timer.overflowAt_le_iff ht.le
  rw [timerCatchUp_eq hs ht, timed_timer, timed_io, hdue, hn, hres]
  refine ⟨?_, Timer.timaLast_lt_overflowAt, fun hlt => ?before, fun hge => ?reached, fun heq => ?due⟩
  · refine if_neg ?_
    rw [hs, timerEnabled, he]
    simp
  case before =>
    obtain ⟨hv, hover⟩ := timaAfter_of_lt s.timer.tma (Nat.lt_of_not_ge (mt hle.mpr (not_le.mpr hlt)))
    rw [hover, hv]
    exact ⟨Nat.cast_add _ _, rfl⟩
  case reached =>
    rw [timaAfter_of_ge _ (hle.mp hge)]
    rfl
  case due =>
    subst heq
    rw [timaAfter_of_eq _ (Timer.ticks_overflowAt ht.le)]

end Sys2Proof.Machine
end

section
/-! SUPPORT. The cartridge mapper: the registers a write to the ROM windows sets, the banks they select, and the accesses
that set none (62_mbc.md R433 to R474, R481; 20_memory.md R97). -/

namespace Sys2Proof.Machine

/-! ### Fields of a byte as numbers -/

section
variable (v : Byte)

theorem romBankField_eq :
    (v &&& 0x0F#8).setWidth 9 = BitVec.ofNat 9 (v.toNat % 16) ∧
    (v &&& 0x1F#8).setWidth 9 = BitVec.ofNat 9 (v.toNat % 32) ∧
    (v &&& 0x3F#8).setWidth 9 = BitVec.ofNat 9 (v.toNat % 64) ∧
    (v &&& 0x7F#8).setWidth 9 = BitVec.ofNat 9 (v.toNat % 128) ∧
    v.setWidth 9 = BitVec.ofNat 9 v.toNat := by
  revert v
  decide

theorem ramBankField_eq :
    (v &&& 0x03#8).setWidth 4 = BitVec.ofNat 4 (v.toNat % 4) ∧
    (v &&& 0x07#8).setWidth 4 = BitVec.ofNat 4 (v.toNat % 8) ∧
    v.setWidth 4 = BitVec.ofNat 4 (v.toNat % 16) := by
  revert v
  decide

theorem bank2Field_eq : v.setWidth 2 = BitVec.ofNat 2 (v.toNat % 4) := by
  revert v
  decide

theorem modeField_eq : v &&& 0x0F#8 = BitVec.ofNat 8 (v.toNat % 16) := by
  revert v
  decide

theorem lowBit_eq : v.getLsbD 0 = decide (v.toNat % 2 = 1) := by
  revert v
  decide

theorem bit4_eq : v.getLsbD 4 = decide (v.toNat / 16 % 2 = 1) := by
  revert v
  decide

/-- MBC5's low bank byte leaves bit 8 of the register (62_mbc.md R433). -/
theorem mbc5Low_eq (r : BitVec 9) : (r &&& 0x100#9) ||| v.setWidth 9 = BitVec.ofNat 9 (r.toNat / 256 * 256 + v.toNat) := by
  have hr : (r &&& 0x100#9 = 0x100#9 ∧ r.toNat / 256 * 256 = 256) ∨
      (r &&& 0x100#9 = 0x000#9 ∧ r.toNat / 256 * 256 = 0) := by
    revert r
    decide
  obtain ⟨hbit, hnum⟩ | ⟨hbit, hnum⟩ := hr
  · rw [hbit, hnum]
    revert v
    decide
  · rw [hbit, hnum]
    revert v
    decide

/-- MBC5's high bank byte sets bit 8 alone. -/
theorem mbc5High_eq (r : BitVec 9) : (r &&& 0x0FF#9) ||| (if v.getLsbD 0 then 0x100#9 else 0x000#9) =
    BitVec.ofNat 9 (v.toNat % 2 * 256 + r.toNat % 256) := by
  rw [lowBit_eq]
  obtain h | h := Nat.mod_two_eq_zero_or_one v.toNat
  · rw [h]
    revert r
    decide
  · rw [h]
    revert r
    decide

end

/-! ### The registers of each variant -/

section
variable (mask : Byte) (n : Nat) (v : Byte) (m : Mapper)

theorem writeMbc1_eq : m.writeMbc1 mask n v =
    if n < 0x2000 then { m with ramEnable := v &&& mask = 0x0A }
    else if n < 0x4000 then { m with romBankReg := BitVec.ofNat 9 (v.toNat % 32) }
    else if n < 0x6000 then { m with bank2 := BitVec.ofNat 2 (v.toNat % 4) }
    else { m with mode := v.toNat % 2 = 1 } := by
  obtain ⟨-, h32, -⟩ := romBankField_eq v
  rw [← h32, ← bank2Field_eq, ← lowBit_eq]
  rfl

theorem writeMbc2_eq : m.writeMbc2 mask n v =
    if 0x4000 ≤ n then m
    else if n / 256 % 2 = 0 then { m with ramEnable := v &&& mask = 0x0A }
    else { m with romBankReg := BitVec.ofNat 9 (v.toNat % 16) } := by
  obtain ⟨h16, -⟩ := romBankField_eq v
  rw [← h16]
  rfl

theorem writeMbc3_eq (c : Cart) : m.writeMbc3 c.mbc30 mask n v =
    if n < 0x2000 then { m with ramEnable := v &&& mask = 0x0A }
    else if n < 0x4000 then
      { m with romBankReg := BitVec.ofNat 9 (if 128 < c.romBanks ∨ 4 < c.ramBanks then v.toNat else v.toNat % 128) }
    else { m with ramBankReg := BitVec.ofNat 4 (v.toNat % 16) } := by
  obtain ⟨-, -, -, h128, hbyte⟩ := romBankField_eq v
  obtain ⟨-, -, h16⟩ := ramBankField_eq v
  have hbank : (if c.mbc30 then v else v &&& 0x7F#8).setWidth 9 =
      BitVec.ofNat 9 (if 128 < c.romBanks ∨ 4 < c.ramBanks then v.toNat else v.toNat % 128) := by
    simp only [Cart.mbc30, Bool.or_eq_true, decide_eq_true_eq]
    split_ifs
    · exact hbyte
    · exact h128
  rw [← hbank, ← h16]
  rfl

theorem writeMbc5_eq (rumble : Bool) : m.writeMbc5 rumble mask n v =
    if n < 0x2000 then { m with ramEnable := v &&& mask = 0x0A }
    else if n < 0x3000 then { m with romBankReg := BitVec.ofNat 9 (m.romBankReg.toNat / 256 * 256 + v.toNat) }
    else if n < 0x4000 then { m with romBankReg := BitVec.ofNat 9 (v.toNat % 2 * 256 + m.romBankReg.toNat % 256) }
    else if n < 0x6000 then { m with ramBankReg := BitVec.ofNat 4 (if rumble then v.toNat % 8 else v.toNat % 16) }
    else m := by
  obtain ⟨-, h8, h16⟩ := ramBankField_eq v
  have hram : (if rumble then v &&& 0x07#8 else v).setWidth 4 =
      BitVec.ofNat 4 (if rumble then v.toNat % 8 else v.toNat % 16) := by
    split_ifs
    · exact h8
    · exact h16
  rw [← mbc5Low_eq, ← mbc5High_eq, ← hram]
  rfl

theorem writeHuc_eq (romMask : Byte) : m.writeHuc romMask n v =
    if n < 0x2000 then { m with modeReg := BitVec.ofNat 8 (v.toNat % 16) }
    else if n < 0x4000 then { m with romBankReg := (v &&& romMask).setWidth 9 }
    else if n < 0x6000 then { m with ramBankReg := BitVec.ofNat 4 (v.toNat % 4) }
    else m := by
  obtain ⟨h4, -⟩ := ramBankField_eq v
  rw [← modeField_eq, ← h4]
  rfl

theorem writeCamera_eq : m.writeCamera mask n v =
    if n < 0x2000 then { m with ramEnable := v &&& mask = 0x0A }
    else if n < 0x4000 then { m with romBankReg := BitVec.ofNat 9 (v.toNat % 64) }
    else if n < 0x6000 then
      (if v.toNat / 16 % 2 = 1 then { m with modeReg := 0x10 }
      else { m with modeReg := 0x00, ramBankReg := BitVec.ofNat 4 (v.toNat % 16) })
    else m := by
  obtain ⟨-, -, h64, -⟩ := romBankField_eq v
  obtain ⟨-, -, h16⟩ := ramBankField_eq v
  simp only [Mapper.writeCamera, h64, h16, bit4_eq, decide_eq_true_eq]
  rfl

theorem writeWisdomTree_eq : m.writeWisdomTree n =
    if n < 0x4000 then { m with modeReg := BitVec.ofNat 8 (n % 256) } else m := by
  have h : BitVec.ofNat 8 (n % 256) = BitVec.ofNat 8 n := BitVec.eq_of_toNat_eq (by simp)
  rw [h]
  rfl

end

/-! ### Handlers and clocks set no register -/

section
variable (s : State)

theorem applySram_form (l : List (Nat × Byte)) :
    ∃ m, State.applySram l s = { s with mem := { s.mem with sram := m } } := by
  induction l generalizing s with
  | nil => exact ⟨s.mem.sram, rfl⟩
  | cons c l ih =>
    simp only [State.applySram]
    split_ifs
    · obtain ⟨m, h⟩ := ih (s.setByte .sram c.1 c.2)
      exact ⟨m, h⟩
    · exact ih s

theorem hostTime_log : s.hostTime.2.ext.log = s.ext.log := by
  unfold State.hostTime
  split <;> rfl

theorem rtcAdvance_log (t : Int) : (s.rtcAdvance t).ext.log = s.ext.log := by
  simp only [State.rtcAdvance]
  split
  · rfl
  · split
    · rfl
    · exact hostTime_log s

/-- What the `CART.special` handler does at an access: RAM bytes and the clock's registers (62_mbc.md section 5). -/
theorem applySpecial_form (ans : SpecialAnswer) : ∃ m r e,
    s.applySpecial ans = { s with mem := { s.mem with sram := m }, rtc := r, ext := e } ∧ e.log = s.ext.log := by
  obtain ⟨m, hm⟩ := applySram_form s ans.sram
  simp only [State.applySpecial, State.applyLayoutB, hm]
  split
  · exact ⟨m, s.rtc, s.ext, rfl, rfl⟩
  · split_ifs
    · obtain ⟨r, e, h⟩ := rtcAdvance_form { s with mem := { s.mem with sram := m } } s.cc
      have hlog := rtcAdvance_log { s with mem := { s.mem with sram := m } } s.cc
      rw [h] at hlog
      exact ⟨m, _, e, by rw [h], hlog⟩
    · exact ⟨m, s.rtc, s.ext, rfl, rfl⟩

theorem callSpecial_nil (h : s.ext.special = []) (ev : ExtEvent) :
    s.callSpecial ev = (Config.freeSpecialByte s.ext.log.length, s.logEvent ev) := by
  simp only [State.callSpecial, State.askSpecial, h]

theorem callSpecial_cons {ans : SpecialAnswer} {rest : List SpecialAnswer} (h : s.ext.special = ans :: rest)
    (ev : ExtEvent) : s.callSpecial ev =
      (ans.value, ({ s with ext := { s.ext with special := rest } }.logEvent ev).applySpecial ans) := by
  simp only [State.callSpecial, State.askSpecial, h]

theorem callSpecial_form (ev : ExtEvent) : ∃ m r e,
    (s.callSpecial ev).2 = { s with mem := { s.mem with sram := m }, rtc := r, ext := e } ∧ e.log = ev :: s.ext.log := by
  cases h : s.ext.special with
  | nil =>
    rw [callSpecial_nil s h]
    exact ⟨s.mem.sram, s.rtc, _, rfl, rfl⟩
  | cons ans rest =>
    rw [callSpecial_cons s h]
    exact applySpecial_form _ ans

@[simp] theorem callSpecial_mapper (ev : ExtEvent) : (s.callSpecial ev).2.mapper = s.mapper := by
  obtain ⟨m, r, e, h, -⟩ := callSpecial_form s ev
  rw [h]

@[simp] theorem rtcAdvance_mapper (t : Int) : (s.rtcAdvance t).mapper = s.mapper := by
  obtain ⟨r, e, h⟩ := rtcAdvance_form s t
  rw [h]

/-! ### Bus accesses outside the ROM windows set no register -/

@[simp] theorem askVram_mapper : s.askVram.2.mapper = s.mapper := by
  unfold State.askVram
  split <;> rfl

@[simp] theorem askOam_mapper : s.askOam.2.mapper = s.mapper := by
  unfold State.askOam
  split <;> rfl

theorem ifCatchUp_mapper : s.ifCatchUp.mapper = s.mapper := (callExt_mapper _ _ _).trans (timerCatchUp_mapper s.cc s)

theorem ioRead_mapper (a : Word) : (s.ioRead a).2.mapper = s.mapper := by
  unfold State.ioRead
  split
  case h_1 =>
    obtain ⟨e, he⟩ := poll_form s
    exact (callExt_mapper _ _ _).trans (by rw [he])
  case h_2 | h_3 => exact timerCatchUp_mapper s.cc s
  case h_6 => exact ifCatchUp_mapper s
  case h_11 => exact callExt_mapper _ _ s
  all_goals rfl

theorem ioWrite_mapper (a : Word) (v : Byte) : (s.ioWrite a v).mapper = s.mapper := by
  unfold State.ioWrite
  split
  case h_1 | h_2 | h_3 | h_4 => exact timerCatchUp_mapper s.cc s
  case h_5 => exact ifCatchUp_mapper s
  case h_6 => rfl
  case h_7 => unfold State.writeKey1; split <;> rfl
  case h_8 => unfold State.writeVbk; split <;> rfl
  case h_9 => unfold State.writeSvbk; split <;> rfl
  case h_10 => exact callExt_mapper _ _ s

theorem cartWindowRead_mapper (a : Word) : (s.cartWindowRead a).2.mapper = s.mapper := by
  unfold State.cartWindowRead
  split
  case h_5 => exact callSpecial_mapper s _
  all_goals rfl

theorem cartWindowWrite_mapper (a : Word) (v : Byte) : (s.cartWindowWrite a v).mapper = s.mapper := by
  unfold State.cartWindowWrite
  split
  case h_2 => split <;> rfl
  case h_4 => exact rtcAdvance_mapper s _
  case h_5 => exact callSpecial_mapper s _
  all_goals rfl

theorem decodedRead_mapper (a : Word) : (s.decodedRead a).2.mapper = s.mapper := by
  unfold State.decodedRead
  cases region a with
  | vram => exact askVram_mapper s
  | cart => exact cartWindowRead_mapper s a
  | oam | oamx => exact askOam_mapper s
  | io => exact ioRead_mapper s a
  | romLow | romHigh | wram | echo | hram | ie => rfl

theorem oamPageWrite_mapper (st : Store) (i : Nat) (b : Bool) (v : Byte) :
    (s.oamPageWrite st i b v).mapper = s.mapper := by
  unfold State.oamPageWrite
  split <;> exact askOam_mapper s

theorem vramWrite_mapper (a : Word) (v : Byte) : (s.vramWrite a v).mapper = s.mapper := by
  unfold State.vramWrite
  split <;> exact askVram_mapper s

theorem decodedWrite_mapper {a : Word} (h : 0x8000 ≤ a.toNat) (v : Byte) : (s.decodedWrite a v).mapper = s.mapper := by
  unfold State.decodedWrite
  cases hr : region a with
  | romLow => exact absurd (lt_of_region_rom (.inl hr)) (by omega)
  | romHigh => exact absurd (lt_of_region_rom (.inr hr)) (by omega)
  | vram => exact vramWrite_mapper s a v
  | cart => exact cartWindowWrite_mapper s a v
  | oam | oamx => exact oamPageWrite_mapper s _ _ _ v
  | io => exact ioWrite_mapper s a v
  | wram | echo | hram | ie => rfl

theorem busRead_mapper (a : Word) : (s.busRead a).2.mapper = s.mapper := by
  by_cases hd : s.diverted a = true
  · rw [busRead_of_diverted hd, busCatchUp_mapper]
  · rw [busRead_of_not_diverted hd, decodedRead_mapper, busCatchUp_mapper]

theorem busWrite_mapper {a : Word} (h : 0x8000 ≤ a.toNat) (v : Byte) : (s.busWrite a v).mapper = s.mapper := by
  by_cases hd : s.diverted a = true
  · rw [busWrite_of_diverted hd, State.setByte_mapper, busCatchUp_mapper]
  · rw [busWrite_of_not_diverted hd, decodedWrite_mapper _ h, busCatchUp_mapper]

/-! ### The write to the ROM windows, by variant -/

theorem writeLatch_mapper (v : Byte) : (s.writeLatch v).mapper = { s.mapper with latchPrev := v } := by
  have hlatch : s.rtcLatch.mapper = s.mapper := rtcAdvance_mapper s s.cc
  simp only [State.writeLatch]
  split_ifs
  · rw [hlatch]
  · rfl

theorem writeSpecial_nil (h : s.ext.special = []) (ev : ExtEvent) : s.writeSpecial ev = s.logEvent ev := by
  simp only [State.writeSpecial, State.askSpecial, h]

theorem writeSpecial_mapper_cons {ans : SpecialAnswer} {rest : List SpecialAnswer} (h : s.ext.special = ans :: rest)
    (ev : ExtEvent) : (s.writeSpecial ev).mapper = { s.mapper with
      specialBank0 := ans.bank0.getD s.mapper.specialBank0, specialBankN := ans.bankN.getD s.mapper.specialBankN } := by
  obtain ⟨m, r, e, hs, -⟩ := applySpecial_form ({ s with ext := { s.ext with special := rest } }.logEvent ev) ans
  simp only [State.writeSpecial, State.askSpecial, h, hs]
  rfl

end

section
variable {s : State} (a : Word) (v : Byte)

theorem romWrite_plain (h : s.cartridge.variant = .plain) : (s.romWrite a v).mapper =
    if a.toNat < 0x2000 then { s.mapper with ramEnable := v &&& s.params.ramgMask = 0x0A } else s.mapper := by
  simp only [State.romWrite, h]
  split_ifs <;> rfl

theorem romWrite_mbc1 (h : s.cartridge.variant = .mbc1) :
    (s.romWrite a v).mapper = s.mapper.writeMbc1 s.params.ramgMask a.toNat v := by
  simp only [State.romWrite, h]

theorem romWrite_mbc2 (h : s.cartridge.variant = .mbc2) :
    (s.romWrite a v).mapper = s.mapper.writeMbc2 s.params.ramgMask a.toNat v := by
  simp only [State.romWrite, h]

theorem romWrite_mbc3 (h : s.cartridge.variant = .mbc3) : s.romWrite a v =
    if a.toNat < 0x6000 then
      { s with mapper := s.mapper.writeMbc3 s.cartridge.mbc30 s.params.ramgMask a.toNat v }
    else s.writeLatch v := by
  simp only [State.romWrite, h]

theorem romWrite_mbc5 (h : s.cartridge.variant = .mbc5) :
    (s.romWrite a v).mapper = s.mapper.writeMbc5 s.cartridge.rumble s.params.ramgMask a.toNat v := by
  simp only [State.romWrite, h]

theorem romWrite_huc (h : s.cartridge.variant = .huc1 ∨ s.cartridge.variant = .huc3) : (s.romWrite a v).mapper =
    s.mapper.writeHuc (if s.cartridge.variant = .huc1 then 0x3F#8 else 0x7F#8) a.toNat v := by
  obtain h | h := h <;> simp only [State.romWrite, h] <;> rfl

theorem romWrite_camera (h : s.cartridge.variant = .camera) :
    (s.romWrite a v).mapper = s.mapper.writeCamera s.params.ramgMask a.toNat v := by
  simp only [State.romWrite, h]

theorem romWrite_mmm01 (h : s.cartridge.variant = .mmm01) :
    s.romWrite a v = s.writeSpecial (.cartRegister a v s.cc) := by
  simp only [State.romWrite, h]

theorem romWrite_wisdomTree (h : s.cartridge.variant = .wisdomTree) :
    (s.romWrite a v).mapper = s.mapper.writeWisdomTree a.toNat := by
  simp only [State.romWrite, h]

end

/-! ### The banks -/

section
variable {s : State}

theorem romBanks_plain (h : s.cartridge.variant = .plain) :
    s.romBank0 = 0 ∧ s.romBankN = 1 % s.cartridge.romBanks := by
  simp only [State.romBank0, State.romBankN, fit, Mapper.rawBank0, Mapper.rawBankN, h, Nat.zero_mod, and_self]

theorem romBanks_mbc1 (h : s.cartridge.variant = .mbc1) :
    s.romBank0 = (if s.mapper.mode then
        (if s.cartridge.multicart then s.mapper.bank2.toNat * 16 else s.mapper.bank2.toNat * 32)
      else 0) % s.cartridge.romBanks ∧
    s.romBankN = (if s.cartridge.multicart then s.mapper.bank2.toNat * 16 + nz s.mapper.romBankReg.toNat % 16
      else s.mapper.bank2.toNat * 32 + nz s.mapper.romBankReg.toNat) % s.cartridge.romBanks := by
  simp only [State.romBank0, State.romBankN, fit, Mapper.rawBank0, Mapper.rawBankN, h, and_self]

theorem romBanks_nz (h : s.cartridge.variant = .mbc2 ∨ s.cartridge.variant = .mbc3) :
    s.romBank0 = 0 ∧ s.romBankN = nz s.mapper.romBankReg.toNat % s.cartridge.romBanks := by
  obtain h | h := h <;>
    simp only [State.romBank0, State.romBankN, fit, Mapper.rawBank0, Mapper.rawBankN, h, Nat.zero_mod, and_self]

theorem romBanks_reg (h : s.cartridge.variant = .mbc5 ∨ s.cartridge.variant = .camera) :
    s.romBank0 = 0 ∧ s.romBankN = s.mapper.romBankReg.toNat % s.cartridge.romBanks := by
  obtain h | h := h <;>
    simp only [State.romBank0, State.romBankN, fit, Mapper.rawBank0, Mapper.rawBankN, h, Nat.zero_mod, and_self]

theorem romBanks_huc (h : s.cartridge.variant = .huc1 ∨ s.cartridge.variant = .huc3) :
    s.romBank0 = 0 ∧ s.romBankN = s.cartridge.adjusted s.mapper.romBankReg.toNat % s.cartridge.romBanks := by
  obtain h | h := h <;>
    simp only [State.romBank0, State.romBankN, fit, Mapper.rawBank0, Mapper.rawBankN, h, Nat.zero_mod, and_self]

theorem romBanks_mmm01 (h : s.cartridge.variant = .mmm01) :
    s.romBank0 = s.mapper.specialBank0 % s.cartridge.romBanks ∧
    s.romBankN = s.mapper.specialBankN % s.cartridge.romBanks := by
  simp only [State.romBank0, State.romBankN, fit, Mapper.rawBank0, Mapper.rawBankN, h, and_self]

theorem romBanks_wisdomTree (h : s.cartridge.variant = .wisdomTree) :
    s.romBank0 = 2 * s.mapper.modeReg.toNat % s.cartridge.romBanks ∧
    s.romBankN = (2 * s.mapper.modeReg.toNat + 1) % s.cartridge.romBanks := by
  simp only [State.romBank0, State.romBankN, fit, Mapper.rawBank0, Mapper.rawBankN, h, and_self]

/-- A loaded cartridge is the one the banks are counted by. -/
theorem cartridge_of_cart {c : Cart} (h : s.cart = some c) : s.cartridge = c := by
  rw [State.cartridge, h, Option.getD_some]

theorem romIndex_lt {a : Nat} (ha : a < 0x8000) (h0 : s.romBank0 < s.cartridge.romBanks)
    (hN : s.romBankN < s.cartridge.romBanks) : s.romIndex a < s.cartridge.romBanks * 0x4000 := by
  unfold State.romIndex
  split_ifs <;> omega

theorem ramPresent_of_ramWindow {p r w b : Bool} (h : ramWindow p r w = .ram b) : p = true := by
  unfold ramWindow at h
  split_ifs at h with hp
  exact (Bool.and_eq_true _ _ ▸ hp).1

/-- The window shows RAM only where there is RAM (62_mbc.md R438, R439). -/
theorem ramBytes_pos_of_window {b : Bool} (h : s.window = .ram b) : 0 < s.cartridge.ramBytes := by
  suffices hp : s.cartridge.ramPresent = true from of_decide_eq_true hp
  simp only [State.window] at h
  split at h
  case h_1 => split_ifs at h
  case h_2 =>
    split_ifs at h
    exact ramPresent_of_ramWindow h
  case h_4 =>
    unfold huc3Window at h
    split_ifs at h <;> exact ramPresent_of_ramWindow h
  case h_6 => cases h
  case h_3 | h_5 =>
    split_ifs at h
    exact ramPresent_of_ramWindow h
  all_goals exact ramPresent_of_ramWindow h

/-- The two sizes of cartridge RAM (62_mbc.md R434). -/
theorem cart_wf_iff {c : Cart} : c.wf = true ↔
    2 ≤ c.romBanks ∧ (c.ramBytes = c.ramBanks * 0x2000 ∨ (c.ramBanks = 0 ∧ c.ramBytes = 2048)) := by
  simp only [Cart.wf, Bool.and_eq_true, Bool.or_eq_true, decide_eq_true_eq]

theorem ramBank_lt (h : s.cartridge.ramBanks ≠ 0) : s.ramBank < s.cartridge.ramBanks := by
  rw [State.ramBank, if_neg h]
  exact Nat.mod_lt _ (Nat.pos_of_ne_zero h)

theorem ramOffset_lt {a : Nat} (hwf : s.cartridge.wf = true) (hpos : 0 < s.cartridge.ramBytes) (ha : a < 0xC000) :
    s.ramOffset a < s.cartridge.ramBytes := by
  obtain ⟨-, hsize⟩ := cart_wf_iff.mp hwf
  unfold State.ramOffset
  split_ifs with hsmall
  · exact Nat.mod_lt _ hpos
  · have hbank := ramBank_lt (s := s) (by omega)
    omega

end

/-! ### The statements -/

/-- Settles O56: each variant's write decoder field by field; the banks are the functions of the registers by
definition. -/
theorem mapperRegistersSelectTheBanks : Obligations.MapperRegistersSelectTheBanks := by
  intro a v s ha n m c x on nz hi reg
  refine ⟨fun h => ?plain, fun h => ?mbc1, fun h => ?mbc2, fun h => ?mbc3, fun h => ?mbc5, fun h => ?huc, fun h => ?camera,
    fun h => ?mmm01, fun h => ?wisdomTree, fun b => ⟨busRead_mapper s b, fun hb => busWrite_mapper s hb v⟩⟩
  case plain => exact ⟨romWrite_plain a v h, romBanks_plain h⟩
  case mbc1 => exact ⟨(romWrite_mbc1 a v h).trans (writeMbc1_eq _ _ _ _), romBanks_mbc1 h⟩
  case mbc2 => exact ⟨(romWrite_mbc2 a v h).trans (writeMbc2_eq _ _ _ _), romBanks_nz (.inl h)⟩
  case mbc3 =>
    refine ⟨?_, romBanks_nz (.inr h)⟩
    rw [romWrite_mbc3 a v h]
    by_cases hn : n < 0x6000
    · rw [if_pos hn, if_pos hn]
      exact writeMbc3_eq _ _ _ _ _
    · rw [if_neg hn, writeLatch_mapper, if_neg hn, if_neg (by omega), if_neg (by omega)]
  case mbc5 => exact ⟨(romWrite_mbc5 a v h).trans (writeMbc5_eq _ _ _ _ _), romBanks_reg (.inl h)⟩
  case huc =>
    obtain ⟨-, -, h64, h128, -⟩ := romBankField_eq v
    refine ⟨(romWrite_huc a v h).trans ?_, romBanks_huc h⟩
    rw [writeHuc_eq, apply_ite (fun mask : Byte => (v &&& mask).setWidth 9), h64, h128, ← apply_ite (BitVec.ofNat 9)]
  case camera => exact ⟨(romWrite_camera a v h).trans (writeCamera_eq _ _ _ _), romBanks_reg (.inr h)⟩
  case mmm01 =>
    obtain ⟨h0, hN⟩ := romBanks_mmm01 h
    rw [romWrite_mmm01 a v h]
    exact ⟨fun ans r he => writeSpecial_mapper_cons s he _, fun he => by rw [writeSpecial_nil s he]; rfl, h0, hN,
      congrArg Mapper.specialBank0 (if_pos h), congrArg Mapper.specialBankN (if_pos h)⟩
  case wisdomTree => exact ⟨(romWrite_wisdomTree a v h).trans (writeWisdomTree_eq _ _), romBanks_wisdomTree h⟩

/-- Settles O57: every bank number is taken modulo the number of banks. -/
theorem everyBankShownExists : Obligations.EveryBankShownExists := by
  intro a c s hs hc
  obtain rfl := cartridge_of_cart hc
  have hwf := hs.cartridge _ hc
  have hbanks : 0 < s.cartridge.romBanks := by have := (cart_wf_iff.mp hwf).1; omega
  have h0 : s.romBank0 < s.cartridge.romBanks := Nat.mod_lt _ hbanks
  have hN : s.romBankN < s.cartridge.romBanks := Nat.mod_lt _ hbanks
  exact ⟨h0, hN, fun ha => romIndex_lt ha h0 hN,
    fun w _ ha hw => ramOffset_lt hwf (ramBytes_pos_of_window hw) ha, Nat.mod_lt _ (by decide)⟩

end Sys2Proof.Machine
end

section
/-! SUPPORT. The cartridge window: what it shows for each variant, and what an access to it does (62_mbc.md R438, R439,
R446, R451, R470 to R474); the clock's registers behind it (63_rtc.md R490, R500 to R506). -/

namespace Sys2Proof.Machine

open Sys2Proof.Family

/-! ### What the window shows -/

section
variable {s : State}

theorem ramWindow_of_open {p r w : Bool} (hp : p = true) (hr : r = true) : ramWindow p r w = .ram w := by
  rw [hp, hr]
  rfl

theorem ramWindow_of_closed {p r w : Bool} (h : r = false ∨ p = false) : ramWindow p r w = .closed := by
  refine if_neg ?_
  rw [Bool.and_eq_true]
  rintro ⟨hp, hr⟩
  obtain h | h := h
  · exact Bool.false_ne_true (h.symm.trans hr)
  · exact Bool.false_ne_true (h.symm.trans hp)

theorem ramPresent_of_pos {c : Cart} (h : 0 < c.ramBytes) : c.ramPresent = true := decide_eq_true h

theorem not_ramPresent_of_zero {c : Cart} (h : c.ramBytes = 0) : c.ramPresent = false := decide_eq_false (by omega)

theorem rtcSelected_iff {c : Cart} {m : Mapper} : m.rtcSelected c = true ↔
    c.hasRtc = true ∧ 8 ≤ m.ramBankReg.toNat ∧ m.ramBankReg.toNat ≤ 12 := by
  simp only [Mapper.rtcSelected, Bool.and_eq_true, decide_eq_true_eq, and_assoc]

theorem window_mbc2 (h : s.cartridge.variant = .mbc2) :
    s.window = if s.mapper.ramEnable then .halfBytes else .closed := by
  simp only [State.window, h]

theorem window_clock (h : s.cartridge.variant = .mbc3) (hr : s.mapper.rtcSelected s.cartridge = true) :
    s.window = if s.mapper.ramEnable then .rtc (s.mapper.ramBankReg.toNat - 8) else .closed := by
  simp only [State.window, h, hr, if_true]

/-- The plain windows show the RAM while it is enabled (62_mbc.md R438). -/
theorem window_plain (h : plainWindow s.cartridge = true)
    (hclock : ¬(s.cartridge.variant = .mbc3 ∧ s.mapper.rtcSelected s.cartridge = true)) :
    s.window = ramWindow s.cartridge.ramPresent s.mapper.ramEnable true := by
  unfold plainWindow at h
  simp only [State.window]
  cases hv : s.cartridge.variant <;> rw [hv] at h
  case mbc3 => exact if_neg (fun hr => hclock ⟨hv, hr⟩)
  all_goals cases h

theorem window_huc1 (h : s.cartridge.variant = .huc1) :
    s.window = if s.mapper.modeReg = 0x0E then .special else ramWindow s.cartridge.ramPresent true true := by
  simp only [State.window, h]

theorem window_huc3 (h : s.cartridge.variant = .huc3) :
    s.window = huc3Window s.cartridge.ramPresent s.mapper.modeReg.toNat := by
  simp only [State.window, h]

/-- HuC3's command modes (62_mbc.md R471). -/
theorem huc3Window_of_command : ∀ mode : Byte, mode ∈ [0x0B#8, 0x0C, 0x0D, 0x0E] →
    ∀ present, huc3Window present mode.toNat = .special := by decide

theorem window_camera (h : s.cartridge.variant = .camera) : s.window =
    if s.mapper.modeReg = 0x10 then .special else ramWindow s.cartridge.ramPresent true s.mapper.ramEnable := by
  simp only [State.window, h]

theorem window_mmm01 (h : s.cartridge.variant = .mmm01) : s.window = .special := by
  simp only [State.window, h]

theorem window_wisdomTree (h : s.cartridge.variant = .wisdomTree) :
    s.window = ramWindow s.cartridge.ramPresent s.mapper.ramEnable true := by
  simp only [State.window, h]

/-! ### Accesses to it -/

section
variable (a : Word) (v : Byte)

theorem cartWindow_of_closed (h : s.window = .closed) :
    s.cartWindowRead a = (s.openBus, s) ∧ s.cartWindowWrite a v = s := by
  simp only [State.cartWindowRead, State.cartWindowWrite, h, and_self]

theorem cartWindow_of_ram {w : Bool} (h : s.window = .ram w) :
    s.cartWindowRead a = (s.byte .sram (s.ramOffset a.toNat), s.drive (s.byte .sram (s.ramOffset a.toNat))) ∧
    s.cartWindowWrite a v = if w then (s.setByte .sram (s.ramOffset a.toNat) v).drive v else s := by
  simp only [State.cartWindowRead, State.cartWindowWrite, h, and_self]

theorem cartWindow_of_halfBytes (h : s.window = .halfBytes) :
    s.cartWindowRead a = (0xF0#8 ||| s.byte .sram (halfByteIndex a.toNat),
      s.drive (0xF0#8 ||| s.byte .sram (halfByteIndex a.toNat))) ∧
    s.cartWindowWrite a v = (s.setByte .sram (halfByteIndex a.toNat) (v &&& 0x0F#8)).drive v := by
  simp only [State.cartWindowRead, State.cartWindowWrite, h, and_self]

theorem cartWindow_of_rtc {i : Nat} (h : s.window = .rtc i) :
    s.cartWindowRead a = (s.rtc.latched.read i, s.drive (s.rtc.latched.read i)) ∧
    s.cartWindowWrite a v = (s.rtcWrite i v).drive v := by
  simp only [State.cartWindowRead, State.cartWindowWrite, h, and_self]

theorem cartWindow_of_special (h : s.window = .special) :
    s.cartWindowRead a = (s.cartridge.specialValue (s.callSpecial (.cartRead a s.cc)).1,
      (s.callSpecial (.cartRead a s.cc)).2.drive
        (s.cartridge.specialValue (s.callSpecial (.cartRead a s.cc)).1)) ∧
    s.cartWindowWrite a v = (s.callSpecial (.cartWrite a v s.cc)).2.drive v := by
  simp only [State.cartWindowRead, State.cartWindowWrite, h, and_self]

theorem specialValue_of_ne {c : Cart} (h : c.variant ≠ .huc1) : c.specialValue v = v := by
  unfold Cart.specialValue
  cases hv : c.variant with
  | huc1 => exact absurd hv h
  | plain | mbc1 | mbc2 | mbc3 | mbc5 | huc3 | camera | mmm01 | wisdomTree => rfl

/-- HuC1's infrared reads one bit (62_mbc.md R470). -/
theorem specialValue_huc1 {c : Cart} (h : c.variant = .huc1) : c.specialValue v = 0xC0 ∨ c.specialValue v = 0xC1 := by
  simp only [Cart.specialValue, h]
  revert v
  decide

/-- An access handed to the handler is answered by it, and drives the bus (log 14). -/
theorem cartWindow_handled (h : s.window = .special) (hv : s.cartridge.variant ≠ .huc1) {ans : SpecialAnswer}
    {r : List SpecialAnswer} (he : s.ext.special = ans :: r) :
    (s.cartWindowRead a).1 = ans.value ∧ (s.cartWindowRead a).2.bus = { value := ans.value, time := s.cc } ∧
    (s.cartWindowWrite a v).bus = { value := v, time := s.cc } ∧
    (s.cartWindowWrite a v).ext.log = .cartWrite a v s.cc :: s.ext.log := by
  obtain ⟨hread, hwrite⟩ := cartWindow_of_special a v h
  obtain ⟨m, r', e, hform, hlog⟩ := callSpecial_form s (.cartWrite a v s.cc)
  have hvalue : (s.callSpecial (.cartRead a s.cc)).1 = ans.value := by rw [callSpecial_cons s he]
  have hcc : (s.callSpecial (.cartRead a s.cc)).2.cc = s.cc := (steady_callSpecial _ s).cc
  rw [hread, hwrite, hform, hvalue, specialValue_of_ne _ hv, State.drive_bus, hcc]
  exact ⟨rfl, rfl, rfl, hlog⟩

theorem rawRamBank_eq (c : Cart) (m : Mapper) : m.rawRamBank c = ramBankRaw c.variant m := by
  unfold Mapper.rawRamBank ramBankRaw
  cases c.variant <;> rfl

/-- The RAM cell of an address (62_mbc.md R439). -/
theorem ramOffset_eq (hwf : s.cartridge.wf = true) (n : Nat) : s.ramOffset n =
    if s.cartridge.ramBytes < 0x2000 then (n - 0xA000) % s.cartridge.ramBytes
    else ramBankRaw s.cartridge.variant s.mapper % s.cartridge.ramBanks * 0x2000 + (n - 0xA000) := by
  obtain ⟨-, hsize⟩ := cart_wf_iff.mp hwf
  unfold State.ramOffset
  split_ifs with hsmall
  · rfl
  · rw [State.ramBank, if_neg (by omega), fit, rawRamBank_eq]

end

end

/-! ### The clock's registers -/

section
variable (s : State)

theorem rtcAdvance_latched (t : Int) : (s.rtcAdvance t).rtc.latched = s.rtc.latched := by
  have hcount (b : Bool) (e : Nat) (r : Rtc) : (r.count b e).latched = r.latched := by
    simp only [Rtc.count, Rtc.tickSeconds]
    split_ifs <;> rfl
  simp only [State.rtcAdvance]
  split_ifs
  · rfl
  · split <;> exact hcount _ _ _

/-- The latch is taken by `0x01` directly after `0x00` (62_mbc.md R452). -/
theorem writeLatch_rtc (v : Byte) : (s.writeLatch v).rtc =
    if s.cartridge.hasRtc = true ∧ s.mapper.latchPrev = 0x00#8 ∧ v = 0x01#8 then s.rtcLatch.rtc else s.rtc := by
  simp only [State.writeLatch]
  split_ifs <;> rfl

end

/-- The five registers as numbers; `DH` holds bit 8 of the day, the halt and the carry (63_rtc.md R490). -/
theorem RtcRegs.read_toNat (r : RtcRegs) {i : Nat} (hi : i < 5) : (r.read i).toNat =
    [r.s.toNat, r.m.toNat, r.h.toNat, r.dl.toNat, r.day8.toNat + 64 * r.halt.toNat + 128 * r.carry.toNat].getD i 0 := by
  have hdh : r.dh.toNat = r.day8.toNat + 64 * r.halt.toNat + 128 * r.carry.toNat := by
    unfold RtcRegs.dh
    cases r.carry <;> cases r.halt <;> cases r.day8 <;> rfl
  interval_cases i
  · exact BitVec.toNat_setWidth_of_le (by decide)
  · exact BitVec.toNat_setWidth_of_le (by decide)
  · exact BitVec.toNat_setWidth_of_le (by decide)
  · rfl
  · exact hdh

theorem RtcRegs.write_eq (r x : RtcRegs) {i : Nat} (hi : i < 5) (v : Byte) : r.write i v =
    [ { r with s := BitVec.ofNat 6 v.toNat }, { r with m := BitVec.ofNat 6 v.toNat },
      { r with h := BitVec.ofNat 5 v.toNat }, { r with dl := v },
      { r with day8 := v.getLsbD 0, halt := v.getLsbD 6, carry := v.getLsbD 7 } ].getD i x := by
  interval_cases i <;> rfl

/-! ### The statements -/

/-- Settles O58: what the window shows decides the access. -/
theorem cartridgeWindowFollowsRamEnable : Obligations.CartridgeWindowFollowsRamEnable := by
  intro a v s ha hb hwf c m driven i open_ clock off read written readOpen lost handled
  have hclosed (h : s.window = .closed) : readOpen ∧ lost := cartWindow_of_closed a v h
  have hram {w : Bool} (h : s.window = .ram w) : read ∧ if w then written else lost := by
    obtain ⟨hread, hwrite⟩ := cartWindow_of_ram a v h
    rw [ramOffset_eq hwf] at hread hwrite
    refine ⟨hread, ?_⟩
    cases w <;> exact hwrite
  have hhandled (hv : c.variant ≠ .huc1) (h : s.window = .special) : handled :=
    fun ans r he => cartWindow_handled a v h hv he
  have hclock : clock ↔ c.variant = .mbc3 ∧ m.rtcSelected c = true := and_congr_right fun _ => rtcSelected_iff.symm
  refine ⟨fun hp hn => ?plain, fun hc he => ?clock, fun hv => ?mbc2, fun hv => ?huc1, fun hv => ?huc3, fun hv => ?camera,
    fun hv => hhandled (by rw [hv]; nofun) (window_mmm01 hv), fun hv h0 => ?wisdomTree⟩
  case plain =>
    have hw := window_plain hp (mt hclock.mpr hn)
    exact ⟨fun he hpos => hram (hw.trans (ramWindow_of_open (ramPresent_of_pos hpos) he)),
      fun h => hclosed (hw.trans (ramWindow_of_closed (h.imp_right not_ramPresent_of_zero)))⟩
  case clock =>
    obtain ⟨hv, hr⟩ := hclock.mp hc
    exact hclosed ((window_clock hv hr).trans (if_neg (by rw [he]; exact Bool.false_ne_true)))
  case mbc2 =>
    exact ⟨fun he => cartWindow_of_halfBytes a v ((window_mbc2 hv).trans (if_pos he)),
      fun he => hclosed ((window_mbc2 hv).trans (if_neg (by rw [he]; exact Bool.false_ne_true)))⟩
  case huc1 =>
    have hw := window_huc1 hv
    refine ⟨fun hm hpos => ?_, fun hm h0 => ?_, fun hm => ?_⟩
    · exact hram (hw.trans ((if_neg hm).trans (ramWindow_of_open (ramPresent_of_pos hpos) rfl)))
    · exact hclosed (hw.trans ((if_neg hm).trans (ramWindow_of_closed (.inr (not_ramPresent_of_zero h0)))))
    · rw [(cartWindow_of_special a v (hw.trans (if_pos hm))).1]
      exact specialValue_huc1 _ hv
  case huc3 =>
    have hw := window_huc3 hv
    refine ⟨fun hm hpos => ?_, fun hm hpos => ?_, fun hm => hhandled (by rw [hv]; nofun) ?_⟩
    · rw [hm] at hw
      exact hram (hw.trans (ramWindow_of_open (ramPresent_of_pos hpos) rfl))
    · rw [hm] at hw
      exact hram (hw.trans (ramWindow_of_open (ramPresent_of_pos hpos) rfl))
    · exact hw.trans (huc3Window_of_command _ hm _)
  case camera =>
    have hw := window_camera hv
    refine ⟨fun hm hpos => ?_, fun hm => hhandled (by rw [hv]; nofun) (hw.trans (if_pos hm))⟩
    obtain ⟨hread, hwrite⟩ := hram (hw.trans ((if_neg hm).trans (ramWindow_of_open (ramPresent_of_pos hpos) rfl)))
    exact ⟨hread, fun he => by rwa [he] at hwrite, fun he => by rwa [he] at hwrite⟩
  case wisdomTree =>
    exact hclosed ((window_wisdomTree hv).trans (ramWindow_of_closed (.inr (not_ramPresent_of_zero h0))))

/-- Settles O59: only the latch register writes the latched copy, and a register access meets the clock's window. -/
theorem clockIsReadFromTheLatchOnly : Obligations.ClockIsReadFromTheLatchOnly := by
  intro a v i t s hv hclock
  refine ⟨rtcAdvance_latched s t, rtcAdvance_latched s s.cc, fun h6 h8 hprev h1 => ?latch, fun h8 h => ?noLatch,
    fun hi hsel hen ha hb => ?register⟩
  case latch =>
    rw [romWrite_mbc3 a v hv, if_neg (by omega), writeLatch_rtc, if_pos ⟨hclock, hprev, h1⟩]
    rfl
  case noLatch =>
    rw [romWrite_mbc3 a v hv]
    split_ifs with h6
    · rfl
    · rw [writeLatch_rtc, if_neg]
      rintro ⟨-, hprev, h1⟩
      exact h.elim h6 fun h => h.elim (absurd hprev) (absurd h1)
  case register =>
    have hw : s.window = .rtc i := by
      rw [window_clock hv (rtcSelected_iff.mpr ⟨hclock, by omega, by omega⟩), if_pos hen, hsel, Nat.add_sub_cancel_left]
    obtain ⟨hread, hwrite⟩ := cartWindow_of_rtc a v hw
    rw [hread, hwrite]
    exact ⟨RtcRegs.read_toNat _ hi, rfl, rtcAdvance_latched s s.cc, RtcRegs.write_eq _ _ hi v, rfl⟩

end Sys2Proof.Machine
end

section
/-! SUPPORT. The clock's counting: a tick of each layout as an odometer, `n` ticks, and an advance of the chip in both modes
(63_rtc.md R491, R497 to R499, R507, R508, R510). -/

namespace Sys2Proof.Machine

/-! ### Layout A -/

/-- The day counter as a number (63_rtc.md R490). -/
def RtcRegs.dayCount (r : RtcRegs) : Nat := r.day8.toNat * 256 + r.dl.toNat

/-- The hours the registers show since day 0. -/
def RtcRegs.hourCount (r : RtcRegs) : Nat := r.h.toNat + 24 * r.dayCount

/-- The minutes the registers show since day 0. -/
def RtcRegs.minuteCount (r : RtcRegs) : Nat := r.m.toNat + 60 * r.hourCount

/-- The seconds the registers show since day 0. -/
def RtcRegs.secondCount (r : RtcRegs) : Nat := r.s.toNat + 60 * r.minuteCount

/-- Seconds, minutes and hours in range (63_rtc.md R498). -/
def RtcRegs.inRange (r : RtcRegs) : Prop := r.s.toNat < 60 ∧ r.m.toNat < 60 ∧ r.h.toNat < 24

section
variable (r : RtcRegs)

theorem RtcRegs.day_eq_dayCount : r.day = r.dayCount := by
  unfold RtcRegs.day RtcRegs.dayCount
  cases r.day8 <;> rfl

theorem RtcRegs.dayCount_lt : r.dayCount < 512 := by
  have hdl := r.dl.isLt
  unfold RtcRegs.dayCount
  cases r.day8 <;> simp only [Bool.toNat_false, Bool.toNat_true] <;> omega

/-- A day: the counter modulo 512, with a sticky carry (63_rtc.md R498). -/
theorem RtcRegs.tickDay_eq : r.tickDay.dayCount = (r.dayCount + 1) % 512 ∧
    r.tickDay.carry = (r.carry || decide (512 ≤ r.dayCount + 1)) ∧
    r.tickDay.s = r.s ∧ r.tickDay.m = r.m ∧ r.tickDay.h = r.h ∧ r.tickDay.halt = r.halt := by
  have hlt := r.dayCount_lt
  unfold RtcRegs.tickDay
  rw [RtcRegs.day_eq_dayCount]
  split_ifs with h
  · have hcarry : decide (512 ≤ r.dayCount + 1) = true := decide_eq_true (by omega)
    have hzero : { r with dl := 0x00, day8 := false, carry := true }.dayCount = 0 := by simp [RtcRegs.dayCount]
    rw [hcarry, Bool.or_true, hzero, h]
    exact ⟨rfl, rfl, rfl, rfl, rfl, rfl⟩
  · have hcarry : decide (512 ≤ r.dayCount + 1) = false := decide_eq_false (by omega)
    rw [hcarry, Bool.or_false]
    refine ⟨?_, rfl, rfl, rfl, rfl, rfl⟩
    show (decide (256 ≤ r.dayCount + 1)).toNat * 256 + (BitVec.ofNat 8 (r.dayCount + 1)).toNat = _
    rw [BitVec.toNat_ofNat]
    by_cases hbit : 256 ≤ r.dayCount + 1
    · rw [decide_eq_true hbit, Bool.toNat_true]
      omega
    · rw [decide_eq_false hbit, Bool.toNat_false]
      omega

variable {r}

theorem RtcRegs.tickHour_eq (hh : r.h.toNat < 24) : r.tickHour.hourCount = (r.hourCount + 1) % (512 * 24) ∧
    r.tickHour.carry = (r.carry || decide (512 * 24 ≤ r.hourCount + 1)) ∧
    r.tickHour.h.toNat < 24 ∧ r.tickHour.s = r.s ∧ r.tickHour.m = r.m ∧ r.tickHour.halt = r.halt := by
  have hlt := r.dayCount_lt
  have hnext : (r.h + 1).toNat = r.h.toNat + 1 := BitVec.toNat_add_of_lt (show r.h.toNat + 1 < 2 ^ 5 by omega)
  unfold RtcRegs.tickHour
  split_ifs with h
  · have hh23 : r.h.toNat + 1 = 24 := by rw [← hnext, h]; rfl
    obtain ⟨hday, hcarry, hs, hm, hh0, hhalt⟩ := { r with h := 0 }.tickDay_eq
    have hd0 : { r with h := 0 }.dayCount = r.dayCount := rfl
    have hz : ({ r with h := 0 }.tickDay).h.toNat = 0 := by rw [hh0]; rfl
    have hle : 512 ≤ r.dayCount + 1 ↔ 512 * 24 ≤ r.h.toNat + 24 * r.dayCount + 1 := by omega
    refine ⟨?_, ?_, by omega, hs, hm, hhalt⟩
    · rw [RtcRegs.hourCount, hz, hday, hd0, RtcRegs.hourCount]
      omega
    · rw [hcarry, hd0, RtcRegs.hourCount, decide_eq_decide.mpr hle]
  · have hne : r.h.toNat + 1 ≠ 24 := by
      rw [← hnext]
      exact fun e => h (BitVec.eq_of_toNat_eq e)
    have hcount : { r with h := r.h + 1 }.hourCount = r.h.toNat + 1 + 24 * r.dayCount := by
      rw [← hnext]
      rfl
    have hno : decide (512 * 24 ≤ r.hourCount + 1) = false := decide_eq_false (by unfold RtcRegs.hourCount; omega)
    refine ⟨?_, ?_, ?_, rfl, rfl, rfl⟩
    · rw [hcount, RtcRegs.hourCount]
      omega
    · rw [hno, Bool.or_false]
    · rw [hnext]
      omega

theorem RtcRegs.tickMinute_eq (hm : r.m.toNat < 60) (hh : r.h.toNat < 24) :
    r.tickMinute.minuteCount = (r.minuteCount + 1) % (512 * 1440) ∧
    r.tickMinute.carry = (r.carry || decide (512 * 1440 ≤ r.minuteCount + 1)) ∧
    r.tickMinute.m.toNat < 60 ∧ r.tickMinute.h.toNat < 24 ∧ r.tickMinute.s = r.s ∧ r.tickMinute.halt = r.halt := by
  have hlt := r.dayCount_lt
  have hnext : (r.m + 1).toNat = r.m.toNat + 1 := BitVec.toNat_add_of_lt (show r.m.toNat + 1 < 2 ^ 6 by omega)
  unfold RtcRegs.tickMinute
  split_ifs with h
  · have hm59 : r.m.toNat + 1 = 60 := by rw [← hnext, h]; rfl
    obtain ⟨hhour, hcarry, hh', hs, hm0, hhalt⟩ := RtcRegs.tickHour_eq (r := { r with m := 0 }) hh
    have hd0 : { r with m := 0 }.hourCount = r.hourCount := rfl
    have hz : ({ r with m := 0 }.tickHour).m.toNat = 0 := by rw [hm0]; rfl
    have hle : 512 * 24 ≤ r.hourCount + 1 ↔ 512 * 1440 ≤ r.m.toNat + 60 * r.hourCount + 1 := by omega
    refine ⟨?_, ?_, by omega, hh', hs, hhalt⟩
    · rw [RtcRegs.minuteCount, hz, hhour, hd0, RtcRegs.minuteCount]
      omega
    · rw [hcarry, hd0, RtcRegs.minuteCount, decide_eq_decide.mpr hle]
  · have hne : r.m.toNat + 1 ≠ 60 := by
      rw [← hnext]
      exact fun e => h (BitVec.eq_of_toNat_eq e)
    have hcount : { r with m := r.m + 1 }.minuteCount = r.m.toNat + 1 + 60 * r.hourCount := by
      rw [← hnext]
      rfl
    have hhours : r.hourCount < 512 * 24 := by unfold RtcRegs.hourCount; omega
    have hno : decide (512 * 1440 ≤ r.minuteCount + 1) = false := decide_eq_false (by unfold RtcRegs.minuteCount; omega)
    refine ⟨?_, ?_, ?_, hh, rfl, rfl⟩
    · rw [hcount, RtcRegs.minuteCount]
      omega
    · rw [hno, Bool.or_false]
    · rw [hnext]
      omega

theorem RtcRegs.tickSecond_eq (hr : r.inRange) : r.tickSecond.secondCount = (r.secondCount + 1) % (512 * 86400) ∧
    r.tickSecond.carry = (r.carry || decide (512 * 86400 ≤ r.secondCount + 1)) ∧
    r.tickSecond.inRange ∧ r.tickSecond.halt = r.halt := by
  obtain ⟨hs, hm, hh⟩ := hr
  have hlt := r.dayCount_lt
  have hnext : (r.s + 1).toNat = r.s.toNat + 1 := BitVec.toNat_add_of_lt (show r.s.toNat + 1 < 2 ^ 6 by omega)
  unfold RtcRegs.tickSecond
  split_ifs with h
  · have hs59 : r.s.toNat + 1 = 60 := by rw [← hnext, h]; rfl
    obtain ⟨hminute, hcarry, hm', hh', hs0, hhalt⟩ := RtcRegs.tickMinute_eq (r := { r with s := 0 }) hm hh
    have hd0 : { r with s := 0 }.minuteCount = r.minuteCount := rfl
    have hz : ({ r with s := 0 }.tickMinute).s.toNat = 0 := by rw [hs0]; rfl
    have hle : 512 * 1440 ≤ r.minuteCount + 1 ↔ 512 * 86400 ≤ r.s.toNat + 60 * r.minuteCount + 1 := by omega
    refine ⟨?_, ?_, ⟨by omega, hm', hh'⟩, hhalt⟩
    · rw [RtcRegs.secondCount, hz, hminute, hd0, RtcRegs.secondCount]
      omega
    · rw [hcarry, hd0, RtcRegs.secondCount, decide_eq_decide.mpr hle]
  · have hne : r.s.toNat + 1 ≠ 60 := by
      rw [← hnext]
      exact fun e => h (BitVec.eq_of_toNat_eq e)
    have hcount : { r with s := r.s + 1 }.secondCount = r.s.toNat + 1 + 60 * r.minuteCount := by
      rw [← hnext]
      rfl
    have hminutes : r.minuteCount < 512 * 1440 := by unfold RtcRegs.minuteCount RtcRegs.hourCount; omega
    have hno : decide (512 * 86400 ≤ r.secondCount + 1) = false := decide_eq_false (by unfold RtcRegs.secondCount; omega)
    refine ⟨?_, ?_, ⟨?_, hm, hh⟩, rfl⟩
    · rw [hcount, RtcRegs.secondCount]
      omega
    · rw [hno, Bool.or_false]
    · rw [hnext]
      omega

theorem RtcRegs.secondCount_lt (hr : r.inRange) : r.secondCount < 512 * 86400 := by
  obtain ⟨hs, hm, hh⟩ := hr
  have hlt := r.dayCount_lt
  unfold RtcRegs.secondCount RtcRegs.minuteCount RtcRegs.hourCount
  omega

/-- `n` seconds of layout A (63_rtc.md R498). -/
theorem RtcRegs.tickSeconds_eq (n : Nat) (hr : r.inRange) :
    (RtcRegs.tickSeconds n r).secondCount = (r.secondCount + n) % (512 * 86400) ∧
    (RtcRegs.tickSeconds n r).carry = (r.carry || decide (512 * 86400 ≤ r.secondCount + n)) ∧
    (RtcRegs.tickSeconds n r).halt = r.halt := by
  induction n generalizing r with
  | zero =>
    have hlt := RtcRegs.secondCount_lt hr
    rw [RtcRegs.tickSeconds, Nat.add_zero, Nat.mod_eq_of_lt hlt, decide_eq_false (Nat.not_le.mpr hlt), Bool.or_false]
    exact ⟨rfl, rfl, rfl⟩
  | succ n ih =>
    obtain ⟨hcount, hcarry, hr', hhalt⟩ := RtcRegs.tickSecond_eq hr
    obtain ⟨ihcount, ihcarry, ihhalt⟩ := ih hr'
    have hlt := RtcRegs.secondCount_lt hr
    refine ⟨?_, ?_, ihhalt.trans hhalt⟩
    · rw [RtcRegs.tickSeconds, ihcount, hcount]
      omega
    · rw [RtcRegs.tickSeconds, ihcarry, hcarry, hcount, Bool.or_assoc, ← Bool.decide_or]
      congr 2
      rw [eq_iff_iff]
      omega

end

/-! ### Layout B -/

/-- The minutes layout B shows since day 0. -/
def RtcB.minuteCount (r : RtcB) : Nat := r.minutes.toNat + 1440 * r.days.toNat

/-- The seconds layout B shows since day 0. -/
def RtcB.secondCount (r : RtcB) : Nat := r.seconds.toNat + 60 * r.minuteCount

/-- Seconds and minutes in range. -/
def RtcB.inRange (r : RtcB) : Prop := r.seconds.toNat < 60 ∧ r.minutes.toNat < 1440

section
variable {r : RtcB}

theorem RtcB.minuteCount_lt (hm : r.minutes.toNat < 1440) : r.minuteCount < 4096 * 1440 := by
  have hd := r.days.isLt
  unfold RtcB.minuteCount
  omega

theorem RtcB.secondCount_lt (hr : r.inRange) : r.secondCount < 4096 * 86400 := by
  obtain ⟨hs, hm⟩ := hr
  have hlt := RtcB.minuteCount_lt hm
  unfold RtcB.secondCount
  omega

theorem RtcB.tickMinute_eq (hm : r.minutes.toNat < 1440) :
    r.tickMinute.minuteCount = (r.minuteCount + 1) % (4096 * 1440) ∧ r.tickMinute.minutes.toNat < 1440 ∧
    { r.tickMinute with minutes := r.minutes, days := r.days } = r := by
  have hd := r.days.isLt
  have hnext : (r.minutes + 1).toNat = r.minutes.toNat + 1 :=
    BitVec.toNat_add_of_lt (show r.minutes.toNat + 1 < 2 ^ 12 by omega)
  unfold RtcB.tickMinute
  split_ifs with h
  · have hlast : r.minutes.toNat = 1439 := by rw [h]; rfl
    have hcount : { r with minutes := 0, days := r.days + 1 }.minuteCount = 1440 * ((r.days.toNat + 1) % 2 ^ 12) := by
      rw [RtcB.minuteCount, BitVec.toNat_add]
      exact Nat.zero_add _
    refine ⟨?_, (by decide : (0 : BitVec 12).toNat < 1440), rfl⟩
    rw [hcount, RtcB.minuteCount]
    omega
  · have hne : r.minutes.toNat ≠ 1439 := fun e => h (BitVec.eq_of_toNat_eq e)
    have hcount : { r with minutes := r.minutes + 1 }.minuteCount = r.minutes.toNat + 1 + 1440 * r.days.toNat := by
      rw [← hnext]
      rfl
    refine ⟨?_, ?_, rfl⟩
    · rw [hcount, RtcB.minuteCount]
      omega
    · rw [hnext]
      omega

theorem RtcB.tickSecond_eq (hr : r.inRange) : r.tickSecond.secondCount = (r.secondCount + 1) % (4096 * 86400) ∧
    r.tickSecond.inRange ∧ { r.tickSecond with seconds := r.seconds, minutes := r.minutes, days := r.days } = r := by
  obtain ⟨hs, hm⟩ := hr
  have hnext : (r.seconds + 1).toNat = r.seconds.toNat + 1 :=
    BitVec.toNat_add_of_lt (show r.seconds.toNat + 1 < 2 ^ 6 by omega)
  unfold RtcB.tickSecond
  split_ifs with h
  · have hlast : r.seconds.toNat = 59 := by rw [h]; rfl
    obtain ⟨hminute, hm', hframe⟩ := RtcB.tickMinute_eq (r := { r with seconds := 0 }) hm
    have hd0 : { r with seconds := 0 }.minuteCount = r.minuteCount := rfl
    have hz : ({ r with seconds := 0 }.tickMinute).seconds.toNat = 0 :=
      congrArg (fun q : RtcB => q.seconds.toNat) hframe
    refine ⟨?_, ⟨by omega, hm'⟩, congrArg (fun q : RtcB => { q with seconds := r.seconds }) hframe⟩
    rw [RtcB.secondCount, hz, hminute, hd0, RtcB.secondCount]
    omega
  · have hne : r.seconds.toNat ≠ 59 := fun e => h (BitVec.eq_of_toNat_eq e)
    have hlt := RtcB.minuteCount_lt hm
    have hcount : { r with seconds := r.seconds + 1 }.secondCount = r.seconds.toNat + 1 + 60 * r.minuteCount := by
      rw [← hnext]
      rfl
    refine ⟨?_, ⟨?_, hm⟩, rfl⟩
    · rw [hcount, RtcB.secondCount]
      omega
    · rw [hnext]
      omega

/-- `n` seconds of layout B (63_rtc.md R510). -/
theorem RtcB.tickSeconds_eq (n : Nat) (hr : r.inRange) :
    (RtcB.tickSeconds n r).secondCount = (r.secondCount + n) % (4096 * 86400) ∧
    { RtcB.tickSeconds n r with seconds := r.seconds, minutes := r.minutes, days := r.days } = r := by
  induction n generalizing r with
  | zero => exact ⟨(Nat.mod_eq_of_lt (RtcB.secondCount_lt hr)).symm, rfl⟩
  | succ n ih =>
    obtain ⟨hcount, hr', hframe⟩ := RtcB.tickSecond_eq hr
    obtain ⟨ihcount, ihframe⟩ := ih hr'
    refine ⟨?_, ?_⟩
    · rw [RtcB.tickSeconds, ihcount, hcount]
      omega
    · refine Eq.trans ?_ hframe
      exact congrArg (fun q : RtcB => { q with seconds := r.seconds, minutes := r.minutes, days := r.days }) ihframe

end

end Sys2Proof.Machine
end

section
/-! SUPPORT. An advance of the clock chip: how much it counts in each mode and what it leaves as it was
(63_rtc.md R491, R497 to R499, R507, R508, R510). -/

namespace Sys2Proof.Machine

/-! ### Counting half-cycle units into the chip -/

section
variable (b : Bool) (e : Nat) (r : Rtc)

theorem Rtc.count_frame :
    { r.count b e with sub := r.sub, live := r.live, layoutB := r.layoutB } = r := by
  unfold Rtc.count Rtc.tickSeconds
  split_ifs <;> rfl

theorem Rtc.count_hostLast : (r.count b e).hostLast = r.hostLast :=
  (congrArg Rtc.hostLast (r.count_frame b e) :)

theorem Rtc.count_last : (r.count b e).last = r.last :=
  (congrArg Rtc.last (r.count_frame b e) :)

theorem Rtc.count_of_halted (h : r.halted b = true) : r.count b e = r := if_pos h

theorem Rtc.count_of_running (h : r.halted b = false) :
    r.count b e = { r with sub := (r.sub + e) % r.div2 }.tickSeconds b ((r.sub + e) / r.div2) :=
  if_neg (by rw [h]; exact Bool.false_ne_true)

theorem Rtc.count_layoutA_layoutB : (r.count false e).layoutB = r.layoutB := by
  unfold Rtc.count
  split_ifs <;> rfl

theorem Rtc.count_layoutB_live : (r.count true e).live = r.live := by
  unfold Rtc.count
  split_ifs <;> rfl

variable {r}

/-- Layout A (63_rtc.md R497 to R499). -/
theorem Rtc.count_layoutA (hhalt : r.live.halt = false) (hr : r.live.inRange) :
    (r.count false e).sub = (r.sub + e) % r.div2 ∧
    (r.count false e).live.secondCount = (r.live.secondCount + (r.sub + e) / r.div2) % (512 * 86400) ∧
    (r.count false e).live.halt = false ∧
    (r.count false e).live.carry =
      (r.live.carry || decide (512 * 86400 ≤ r.live.secondCount + (r.sub + e) / r.div2)) := by
  obtain ⟨hcount, hcarry, hhalt'⟩ := RtcRegs.tickSeconds_eq ((r.sub + e) / r.div2) hr
  rw [Rtc.count_of_running false e r hhalt]
  exact ⟨rfl, hcount, hhalt'.trans hhalt, hcarry⟩

/-- Layout B (63_rtc.md R510). -/
theorem Rtc.count_layoutB (hhalt : r.layoutB.halted = false) (hr : r.layoutB.inRange) :
    (r.count true e).sub = (r.sub + e) % r.div2 ∧
    (r.count true e).layoutB.secondCount = (r.layoutB.secondCount + (r.sub + e) / r.div2) % (4096 * 86400) ∧
    { (r.count true e).layoutB with seconds := r.layoutB.seconds, minutes := r.layoutB.minutes, days := r.layoutB.days } =
      r.layoutB := by
  rw [Rtc.count_of_running true e r hhalt]
  exact ⟨rfl, RtcB.tickSeconds_eq _ hr⟩

end

/-! ### An advance -/

section
variable {s : State} {t : Int}

theorem hostTime_eq : s.hostTime =
    (s.ext.times.head?.getD s.rtc.hostLast, { s with ext := { s.ext with times := s.ext.times.tail } }) := by
  cases h : s.ext.times with
  | nil =>
    simp only [State.hostTime, h, List.head?_nil, Option.getD_none, List.tail_nil]
    rw [← h]
  | cons x r => simp only [State.hostTime, h, List.head?_cons, Option.getD_some, List.tail_cons]

theorem rtcAdvance_of_le (h : t ≤ s.rtc.last) : s.rtcAdvance t = s := if_pos h

/-- In cycle mode the time that passes is that of the cycle counter (63_rtc.md R497). -/
theorem rtcAdvance_cycle (hmode : s.params.rtcSync = .cycle) (h : s.rtc.last < t) : s.rtcAdvance t =
    { s with rtc := { s.rtc with last := t }.count s.rtcLayoutB (s.rtcElapsed t) } := by
  rw [State.rtcAdvance, if_neg (Int.not_le.mpr h), hmode]

/-- In wall mode it is the host's since `hostLast` (63_rtc.md R497; log 11). -/
theorem rtcAdvance_wall (hmode : s.params.rtcSync = .wall) (h : s.rtc.last < t) : s.rtcAdvance t =
    { s with
      rtc := { s.rtc with last := t, hostLast := s.ext.times.head?.getD s.rtc.hostLast }.count s.rtcLayoutB
        ((s.ext.times.head?.getD s.rtc.hostLast - s.rtc.hostLast).toNat * s.rtc.div2)
      ext := { s.ext with times := s.ext.times.tail } } := by
  rw [State.rtcAdvance, if_neg (Int.not_le.mpr h), hmode]
  simp only [hostTime_eq]

end

/-! ### What an advance counts -/

/-- The chip `n` that `e` half-cycle units leave of the chip `r`, by layout (63_rtc.md R490, R497 to R499, R510). -/
def Rtc.counted (b : Bool) (e : Nat) (r n : Rtc) : Prop :=
  (b = false → n.layoutB = r.layoutB ∧ (r.live.halt = true → n.live = r.live ∧ n.sub = r.sub) ∧
    (r.live.halt = false → r.live.s.toNat < 60 → r.live.m.toNat < 60 → r.live.h.toNat < 24 →
      n.sub = (r.sub + e) % r.div2 ∧
      n.live.secondCount = (r.live.secondCount + (r.sub + e) / r.div2) % (512 * 86400) ∧
      n.live.halt = false ∧
      n.live.carry = (r.live.carry || decide (512 * 86400 ≤ r.live.secondCount + (r.sub + e) / r.div2)))) ∧
  (b = true → n.live = r.live ∧ (r.layoutB.halted = true → n.layoutB = r.layoutB ∧ n.sub = r.sub) ∧
    (r.layoutB.halted = false → r.layoutB.seconds.toNat < 60 → r.layoutB.minutes.toNat < 1440 →
      n.sub = (r.sub + e) % r.div2 ∧
      n.layoutB.secondCount = (r.layoutB.secondCount + (r.sub + e) / r.div2) % (4096 * 86400) ∧
      { n.layoutB with seconds := r.layoutB.seconds, minutes := r.layoutB.minutes, days := r.layoutB.days } = r.layoutB))

theorem Rtc.counted_count (b : Bool) (e : Nat) (r : Rtc) : r.counted b e (r.count b e) := by
  constructor <;> rintro rfl
  · refine ⟨r.count_layoutA_layoutB e, fun hhalt => ?_,
      fun hhalt hs hm hh => Rtc.count_layoutA e hhalt ⟨hs, hm, hh⟩⟩
    rw [Rtc.count_of_halted false e r hhalt]
    exact ⟨rfl, rfl⟩
  · refine ⟨r.count_layoutB_live e, fun hhalt => ?_, fun hhalt hs hm => Rtc.count_layoutB e hhalt ⟨hs, hm⟩⟩
    rw [Rtc.count_of_halted true e r hhalt]
    exact ⟨rfl, rfl⟩

section
variable {s : State} {t : Int}

theorem rtcAdvance_cycle_counts (hmode : s.params.rtcSync = .cycle) (h : s.rtc.last < t) :
    s.rtc.counted s.rtcLayoutB (s.rtcElapsed t) (s.rtcAdvance t).rtc := by
  rw [rtcAdvance_cycle hmode h]
  exact Rtc.counted_count s.rtcLayoutB (s.rtcElapsed t) { s.rtc with last := t }

theorem rtcAdvance_wall_counts (hmode : s.params.rtcSync = .wall) (h : s.rtc.last < t) :
    s.rtc.counted s.rtcLayoutB ((s.ext.times.head?.getD s.rtc.hostLast - s.rtc.hostLast).toNat * s.rtc.div2)
      (s.rtcAdvance t).rtc := by
  rw [rtcAdvance_wall hmode h]
  exact Rtc.counted_count _ _ { s.rtc with last := t, hostLast := s.ext.times.head?.getD s.rtc.hostLast }

/-- An advance stamps the chip and changes nothing but the chip and the host's answers. -/
theorem rtcAdvance_frame (h : s.rtc.last < t) :
    (s.rtcAdvance t).rtc.last = t ∧ { s.rtcAdvance t with rtc := s.rtc, ext := s.ext } = s ∧
    { (s.rtcAdvance t).rtc with last := s.rtc.last, hostLast := s.rtc.hostLast, sub := s.rtc.sub, live := s.rtc.live,
                                layoutB := s.rtc.layoutB } = s.rtc := by
  cases hmode : s.params.rtcSync with
  | cycle =>
    have hform := Rtc.count_frame s.rtcLayoutB (s.rtcElapsed t) { s.rtc with last := t }
    rw [rtcAdvance_cycle hmode h]
    exact ⟨Rtc.count_last _ _ _, rfl,
      congrArg (fun q : Rtc => { q with last := s.rtc.last, hostLast := s.rtc.hostLast }) hform⟩
  | wall =>
    have hform := Rtc.count_frame s.rtcLayoutB
      ((s.ext.times.head?.getD s.rtc.hostLast - s.rtc.hostLast).toNat * s.rtc.div2)
      { s.rtc with last := t, hostLast := s.ext.times.head?.getD s.rtc.hostLast }
    rw [rtcAdvance_wall hmode h]
    exact ⟨Rtc.count_last _ _ _, rfl,
      congrArg (fun q : Rtc => { q with last := s.rtc.last, hostLast := s.rtc.hostLast }) hform⟩

theorem rtcAdvance_cycle_host (hmode : s.params.rtcSync = .cycle) (h : s.rtc.last < t) :
    (s.rtcAdvance t).rtc.hostLast = s.rtc.hostLast ∧ (s.rtcAdvance t).ext = s.ext := by
  rw [rtcAdvance_cycle hmode h]
  exact ⟨Rtc.count_hostLast s.rtcLayoutB (s.rtcElapsed t) { s.rtc with last := t }, rfl⟩

theorem rtcAdvance_wall_host (hmode : s.params.rtcSync = .wall) (h : s.rtc.last < t) :
    (s.rtcAdvance t).rtc.hostLast = s.ext.times.head?.getD s.rtc.hostLast ∧
    (s.rtcAdvance t).ext = { s.ext with times := s.ext.times.tail } := by
  rw [rtcAdvance_wall hmode h]
  exact ⟨Rtc.count_hostLast _ _ _, rfl⟩

theorem setBaseTime_eq (ts : Int) (s : State) : s.setBaseTime ts = { s.rtcAdvance s.cc with
    rtc := { (s.rtcAdvance s.cc).rtc with
      baseTime := ts, last := s.cc
      hostLast := if s.params.rtcSync = .wall then ts else (s.rtcAdvance s.cc).rtc.hostLast } } := by
  unfold State.setBaseTime
  cases s.params.rtcSync <;> rfl

end

/-- Settles O60: a tick of either layout is one step of its odometer, an advance makes as many as whole seconds have passed,
and each mode gives the time that has. -/
theorem clockCountsElapsedSeconds : Obligations.ClockCountsElapsedSeconds := by
  intro t ts offset s c n div2 e day secs secsB host counts
  refine ⟨rtcAdvance_frame, fun hmode h _ => ⟨rtcAdvance_cycle_counts hmode h, rtcAdvance_cycle_host hmode h⟩,
    fun hmode h _ => ⟨rtcAdvance_wall_counts hmode h, rtcAdvance_wall_host hmode h⟩, rtcAdvance_of_le,
    setBaseTime_eq ts s, rfl⟩

end Sys2Proof.Machine
end

section
/-! SUPPORT. The OAM-DMA engine: what it reads, what a whole transfer does byte by byte, and the areas it contends for
(64_oamdma.md R523 to R530). -/

namespace Sys2Proof.Machine

/-- Settles O55: each source's area is the one the table lists, on either model. -/
theorem conflictAreasAreAsListed : Obligations.ConflictAreasAreAsListed := by
  intro cgb n cartBus dmgBus
  have hcart : ∀ src, src = DmaSrc.rom ∨ src = DmaSrc.sram →
      (inConflictArea cgb src n = true ↔ if cgb then cartBus else dmgBus) := by
    rintro src (rfl | rfl) <;> cases cgb <;> simp [inConflictArea, cartBus, dmgBus]
  refine ⟨hcart .rom (.inl rfl), hcart .sram (.inr rfl), ?_, ?_, ?_, rfl, ?_⟩
  · cases cgb <;> simp [inConflictArea, dmgBus]
  · simp [inConflictArea]
  · simp [inConflictArea]
  · intro src h
    have hhigh : ∀ k, k ≤ 0xFE00 → ¬n < k := fun k hk => by omega
    cases src <;> cases cgb <;> simp [inConflictArea, hhigh]

/-! ### The byte of each source -/

section
variable {s : State} (p : Byte)

/-- `DmaSourceByte` with the address written as the page and the position (64_oamdma.md R528). -/
theorem dmaSourceByte_rom (h : s.dma.src = .rom) :
    s.dmaSourceByte p = (s.byte .rom (s.romIndex (256 * s.io.dma.toNat + p.toNat)), s) := by
  rw [State.dmaSourceByte, h, Nat.mul_comm]

theorem dmaSourceByte_vram (h : s.dma.src = .vram) :
    s.dmaSourceByte p = (s.byte .vram (s.vramIndex (256 * s.io.dma.toNat + p.toNat)), s) := by
  rw [State.dmaSourceByte, h, Nat.mul_comm]

theorem dmaSourceByte_wram (h : s.dma.src = .wram) : s.dmaSourceByte p =
    (s.byte .wram (s.wramIndex (if 0xE000 ≤ 256 * s.io.dma.toNat + p.toNat
      then 256 * s.io.dma.toNat + p.toNat - 0x2000 else 256 * s.io.dma.toNat + p.toNat)), s) := by
  rw [State.dmaSourceByte, h, Nat.mul_comm]

theorem dmaSourceByte_sram (h : s.dma.src = .sram) :
    s.dmaSourceByte p = s.dmaWindowByte (256 * s.io.dma.toNat + p.toNat) := by
  rw [State.dmaSourceByte, h, Nat.mul_comm]

theorem dmaSourceByte_invalid (h : s.dma.src = .invalid) : s.dmaSourceByte p = (0xFF, s) := by
  rw [State.dmaSourceByte, h]

theorem dmaWindowByte_snd (h : s.window ≠ .special) (a : Nat) : (s.dmaWindowByte a).2 = s := by
  unfold State.dmaWindowByte
  cases hw : s.window with
  | special => exact absurd hw h
  | closed | ram | halfBytes | rtc => rfl

/-- Away from a special window a read of the engine changes nothing. -/
theorem dmaSourceByte_snd (h : s.window ≠ .special) : (s.dmaSourceByte p).2 = s := by
  unfold State.dmaSourceByte
  cases s.dma.src with
  | sram => exact dmaWindowByte_snd h _
  | rom | vram | wram | invalid | off => rfl

end

/-! ### A transfer under way

`w` is the machine after the write to `DMA`. -/

section
variable (w : State)

/-- The byte at position `j` of the page. -/
def State.pageByte (j : Nat) : Byte := (w.dmaSourceByte (BitVec.ofNat 8 j)).1

/-- OAM with the first `k` bytes of the page copied. -/
def State.oamCopied : Nat → Memory
  | 0 => w.mem.oam
  | k + 1 => (oamCopied k).write k (w.pageByte k)

/-- The machine with the first `k` bytes copied and the engine at `d`. -/
def State.copied (k : Nat) (d : OamDma) : State := { w with mem := { w.mem with oam := w.oamCopied k }, dma := d }

/-- The engine before it copies byte `k`, last stepped at `l`. -/
def State.engineAt (k : Nat) (l : Int) : OamDma :=
  { src := w.dma.src, pos := BitVec.ofNat 8 (255 + k), startPos := 0, last := some l }

theorem read_oamCopied (k j : Nat) :
    (w.oamCopied k).read j = if j < k then w.pageByte j else w.byte .oam j := by
  induction k with
  | zero => exact (if_neg (Nat.not_lt_zero j)).symm
  | succ k ih =>
    rw [State.oamCopied, Memory.read_write, ih]
    by_cases hj : k = j
    · subst hj
      rw [if_pos rfl, if_pos (Nat.lt_succ_self k)]
    · have hiff : j < k ↔ j < k + 1 := by omega
      rw [if_neg hj, if_congr hiff rfl rfl]

variable {w}

/-- What the engine reads does not depend on OAM or on how far it has come. -/
theorem dmaSourceByte_copied (h : w.window ≠ .special) (k j : Nat) {d : OamDma} (hsrc : d.src = w.dma.src) :
    (w.copied k d).dmaSourceByte (BitVec.ofNat 8 j) = (w.pageByte j, w.copied k d) := by
  refine Prod.ext ?_ (dmaSourceByte_snd _ h)
  have hd : (w.copied k d).dma.src = w.dma.src := hsrc
  have hwindow : (w.copied k d).window = w.window := rfl
  unfold State.pageByte State.dmaSourceByte State.dmaWindowByte
  rw [hd]
  cases w.dma.src with
  | sram =>
    rw [hwindow]
    cases hw : w.window with
    | special => exact absurd hw h
    | closed | ram | halfBytes | rtc => rfl
  | rom | vram | wram | invalid | off => rfl

theorem engineAt_advance (k : Nat) (l : Int) :
    (w.engineAt k l).advance = (BitVec.ofNat 8 k, 0) := by
  have hpos : (w.engineAt k l).pos + 1 = BitVec.ofNat 8 k := by
    refine BitVec.eq_of_toNat_eq ?_
    rw [BitVec.toNat_add, State.engineAt, BitVec.toNat_ofNat, BitVec.toNat_ofNat]
    show ((255 + k) % 256 + 1) % 256 = k % 256
    omega
  rw [OamDma.advance, hpos]
  split_ifs with h
  · rw [h]
    rfl
  · rfl

/-- A step at byte `k` copies it. -/
theorem dmaStep_engineAt (h : w.window ≠ .special) {k : Nat} (hk : k < 160) (l t : Int) :
    (w.copied k (w.engineAt k l)).dmaStep t = w.copied (k + 1) (w.engineAt (k + 1) t) := by
  have hk8 : (BitVec.ofNat 8 k).toNat = k := by rw [BitVec.toNat_ofNat]; omega
  have hpos : BitVec.ofNat 8 k = BitVec.ofNat 8 (255 + (k + 1)) := by
    refine BitVec.eq_of_toNat_eq ?_
    rw [BitVec.toNat_ofNat, BitVec.toNat_ofNat]
    omega
  have hadv : (w.copied k (w.engineAt k l)).dma.advance = (BitVec.ofNat 8 (255 + (k + 1)), 0) :=
    hpos ▸ engineAt_advance k l
  have hbyte := dmaSourceByte_copied h k k (d := w.engineAt (k + 1) t) rfl
  have hlow : (BitVec.ofNat 8 (255 + (k + 1))).toNat < 0xA0 := by rw [← hpos]; omega
  rw [State.dmaStep, hadv]
  refine (if_pos hlow).trans ?_
  show ((w.copied k (w.engineAt (k + 1) t)).dmaSourceByte _).2.setByte .oam _
    ((w.copied k (w.engineAt (k + 1) t)).dmaSourceByte _).1 = _
  rw [← hpos, hbyte, hk8]
  rfl

/-- After the last byte a step ends the transfer. -/
theorem dmaStep_engineAt_last (l t : Int) :
    (w.copied 160 (w.engineAt 160 l)).dmaStep t = w.copied 160 OamDma.idle := by
  have hadv : (w.copied 160 (w.engineAt 160 l)).dma.advance = (BitVec.ofNat 8 160, 0) := engineAt_advance 160 l
  unfold State.dmaStep
  simp only [hadv]
  rfl

/-- `n` steps in a row copy `n` bytes. -/
theorem dmaSteps_engineAt (h : w.window ≠ .special) (n m k : Nat) (hk : k + n ≤ 160) (l : Int) :
    (w.copied k (w.engineAt k l)).dmaSteps (n + m) =
      (w.copied (k + n) (w.engineAt (k + n) (l + 4 * n))).dmaSteps m := by
  induction n generalizing k l with
  | zero =>
    rw [Nat.zero_add, Nat.add_zero, Int.natCast_zero, Int.mul_zero, Int.add_zero]
  | succ n ih =>
    have hnat : k + 1 + n = k + (n + 1) := by omega
    have hint : l + 4 + 4 * (n : Int) = l + 4 * ((n + 1 : Nat) : Int) := by omega
    rw [Nat.succ_add]
    show ((w.copied k (w.engineAt k l)).dmaStep (l + 4)).dmaSteps (n + m) = _
    rw [dmaStep_engineAt h (by omega), ih (k + 1) (by omega), hnat, hint]

/-! ### The whole transfer -/

section
variable {l : Int}

/-- From the idle position a first step moves to the byte before the page (64_oamdma.md R525). -/
theorem dmaSteps_start (hpos : w.dma.pos = 0xFE) (hstart : w.dma.startPos = 0) (hlast : w.dma.last = some l) (n : Nat) :
    w.dmaSteps (n + 1) = (w.copied 0 (w.engineAt 0 (l + 4))).dmaSteps n := by
  have hadv : w.dma.advance = (0xFF, 0) := by
    rw [OamDma.advance, hpos, hstart]
    rfl
  have hstep : w.dmaStep (l + 4) = w.copied 0 (w.engineAt 0 (l + 4)) := by
    rw [State.dmaStep, hadv]
    rfl
  rw [State.dmaSteps, hlast, ← hstep]

/-- Caught up to byte `i`, the engine has copied the bytes up to it and no more. -/
theorem dmaCatchUp_byte (h : w.window ≠ .special) (hstop : w.cpu.stopped = false) (hpos : w.dma.pos = 0xFE)
    (hstart : w.dma.startPos = 0) (hlast : w.dma.last = some l) {i : Nat} (hi : i < 160) :
    w.dmaCatchUp (l + 8 + 4 * (i : Int)) =
      (w.copied (i + 1) (w.engineAt (i + 1) (l + 8 + 4 * i))).setSlot .oamDma (some (l + 8 + 4 * i + 4)) := by
  have hdue : w.dmaDue (l + 8 + 4 * (i : Int)) = i + 1 + 1 := by
    rw [State.dmaDue, hlast]
    show ((l + 8 + 4 * (i : Int) - l) / 4).toNat = _
    omega
  have hsteps : w.dmaSteps (i + 1 + 1) = w.copied (i + 1) (w.engineAt (i + 1) (l + 8 + 4 * i)) := by
    have hstamp : l + 4 + 4 * ((i + 1 : Nat) : Int) = l + 8 + 4 * i := by omega
    have hrun := dmaSteps_engineAt h (i + 1) 0 0 (by omega) (l + 4)
    rw [dmaSteps_start hpos hstart hlast]
    rw [hstamp, Nat.add_zero, Nat.zero_add] at hrun
    exact hrun
  rw [State.dmaCatchUp, hstop, hdue, hsteps]
  rfl

/-- Caught up past the end, the page is in OAM and the engine idle. -/
theorem dmaCatchUp_end (h : w.window ≠ .special) (hstop : w.cpu.stopped = false) (hpos : w.dma.pos = 0xFE)
    (hstart : w.dma.startPos = 0) (hlast : w.dma.last = some l) :
    w.dmaCatchUp (l + 648) = (w.copied 160 OamDma.idle).setSlot .oamDma none := by
  have hdue : w.dmaDue (l + 648) = 160 + 1 + 1 := by
    rw [State.dmaDue, hlast]
    show ((l + 648 - l) / 4).toNat = _
    omega
  have hsteps : w.dmaSteps (160 + 1 + 1) = w.copied 160 OamDma.idle := by
    rw [dmaSteps_start hpos hstart hlast, dmaSteps_engineAt h 160 1 0 (by omega)]
    exact dmaStep_engineAt_last _ _
  rw [State.dmaCatchUp, hstop, hdue, hsteps]
  rfl

end

end

/-- Settles O54: from an idle engine the first step only moves to the page, each of the next 160 copies its byte, and one
more ends the transfer. -/
theorem oamDmaCopiesAByteEveryFourCycles : Obligations.OamDmaCopiesAByteEveryFourCycles := by
  intro v p i s
  refine ⟨fun hidle hstop hwindow hi => ?_, ?_⟩
  · intro w b t e
    have hstart : w.dma.startPos = 0 := by
      show s.dma.pos + 2 = 0
      rw [hidle]
      rfl
    have hpos : w.dma.pos = 0xFE := by
      show s.dma.pos = _
      rw [hidle]
      rfl
    have ht : t = _ := dmaCatchUp_byte (w := w) hwindow hstop hpos hstart rfl hi
    have he : e = _ := dmaCatchUp_end (w := w) hwindow hstop hpos hstart rfl
    rw [ht, he]
    refine ⟨?_, rfl, fun j => ?_, rfl, rfl, read_oamCopied w 160, fun st hst => ?_⟩
    · show (BitVec.ofNat 8 (255 + (i + 1))).toNat = i
      rw [BitVec.toNat_ofNat]
      omega
    · exact (read_oamCopied w (i + 1) j).trans (if_congr Nat.lt_succ_iff rfl rfl)
    · cases st with
      | oam => exact absurd rfl hst
      | _ => rfl
  · intro a k vbk wbk
    refine ⟨dmaSourceByte_rom p, dmaSourceByte_vram p, dmaSourceByte_wram p, dmaSourceByte_invalid p, fun hsrc => ?_⟩
    rw [dmaSourceByte_sram p hsrc, State.dmaWindowByte]
    refine ⟨fun hw => by rw [hw], fun w hw => by rw [hw], fun hw => ?_, fun n hw => by rw [hw]⟩
    rw [hw]
    rfl

end Sys2Proof.Machine
end

section
/-! SUPPORT. What every instruction takes: the accesses and internal cycles of each shared operation, and the table's cost
assembled from them (00_scope.md R11, 70_reset_and_hazards.md R570). -/

namespace Sys2Proof.Machine

open Sys2Proof.Family

/-! ### The cost of an instruction from the time it runs -/

section
variable {i : Instr} {s t u : State} {d n : Int}

/-- A fetched byte takes 4; what the instruction runs takes the rest (00_scope.md R11). -/
theorem completes_after (d : Int) (hs : i ≠ .stop) (he : exec i s = .next t) (hc : t.cc = s.cc + d)
    (hn : 4 * ((encode i).length : Int) + d = n) : ∃ t, exec i s = .next t ∧ 4 * fetches i + (t.cc - s.cc) = n := by
  refine ⟨t, he, ?_⟩
  rw [fetches, if_neg hs, hc, ← hn]
  omega

theorem completes_at_once (hs : i ≠ .stop) (he : exec i s = .next t) (hc : t.cc = s.cc)
    (hn : 4 * ((encode i).length : Int) + 0 = n) : ∃ t, exec i s = .next t ∧ 4 * fetches i + (t.cc - s.cc) = n :=
  completes_after 0 hs he (hc.trans (Int.add_zero _).symm) hn

/-- A conditional instruction costs what the path it takes runs. -/
theorem completes_if {k : Cond} {m n : Int} (d e : Int) (hs : i ≠ .stop)
    (he : exec i s = .next (if s.holds k then t else u)) (ht : t.cc = s.cc + d) (hu : u.cc = s.cc + e)
    (hm : 4 * ((encode i).length : Int) + d = m) (hn : 4 * ((encode i).length : Int) + e = n) :
    ∃ t, exec i s = .next t ∧ 4 * fetches i + (t.cc - s.cc) = if condTrue k s.cpu.f then m else n := by
  rw [holds_eq_condTrue] at he
  cases hk : condTrue k s.cpu.f <;> rw [hk] at he
  · exact completes_after e hs he hu hn
  · exact completes_after d hs he ht hm

end

/-! ### The prefixed operations -/

section
variable (r : Operand) (s : State)

/-- The operand of a prefixed instruction takes an access of its own when it is `(HL)`. -/
def operandAccess (r : Operand) : Int := if r = .indHL then 4 else 0

theorem readOperand_cc : (s.readOperand r).2.cc = s.cc + operandAccess r := by
  cases r with
  | reg x => exact (Int.add_zero _).symm
  | indHL => exact memRead_cc _ s

theorem writeOperand_cc (v : Byte) : (s.writeOperand r v).cc = s.cc + operandAccess r := by
  cases r with
  | reg x => exact (State.setReg8_cc x v s).trans (Int.add_zero _).symm
  | indHL => exact memWrite_cc _ v s

theorem changeBit_cc (f : Byte → Byte) : (s.changeBit f r).cc = s.cc + (operandAccess r + operandAccess r) := by
  rw [State.changeBit, writeOperand_cc, readOperand_cc, Int.add_assoc]

theorem rotate_cc (f : Byte → Bool → Byte × Bool) :
    (s.rotate f r).cc = s.cc + (operandAccess r + operandAccess r) := by
  rw [State.rotate, State.setFlags_cc, writeOperand_cc, readOperand_cc, Int.add_assoc]

theorem testBit_cc (b : Nat) : (s.testBit b r).cc = s.cc + operandAccess r := readOperand_cc r s

/-- Read and written back (44_rotate_shift_bit.md R274, R284, R285). -/
theorem access_twice (r : Operand) : 8 + (operandAccess r + operandAccess r) = if r = .indHL then 16 else 8 := by
  cases r <;> rfl

/-- Read only (R283). -/
theorem access_once (r : Operand) : 8 + operandAccess r = if r = .indHL then 12 else 8 := by
  cases r <;> rfl

end

/-- `RET cond` spends a cycle on its condition on either path (45_control.md R308). -/
theorem tick_returnTo_cc (s : State) : s.tick.returnTo.cc = s.cc + 16 := by
  rw [returnTo_cc, State.tick_cc, Int.add_assoc]
  rfl

theorem tick_push16_cc (w : Word) (s : State) : (s.tick.push16 w).cc = s.cc + 12 := by
  rw [push16_cc, State.tick_cc, Int.add_assoc]
  rfl

/-- Settles O7: each group of instructions runs one shared operation, whose time is known. The groups are the instructions
that run in no time of their own, those with one internal cycle, those that access memory, and those with a choice. -/
theorem everyInstructionCompletesAtItsCost : Obligations.EveryInstructionCompletesAtItsCost := by
  intro i s hwf
  cases i with
  | nop | ldBCImm _ | incB | decB | ldBImm _ | rlca | incC | decC | ldCImm _ | rrca
  | ldDEImm _ | incD | decD | ldDImm _ | rla | incE | decE | ldEImm _ | rra
  | ldHLImm _ | incH | decH | ldHImm _ | daa | incL | decL | ldLImm _ | cpl | ldSPImm _
  | scf | incA | decA | ldAImm _ | ccf | ldBB | ldBC | ldBD | ldBE | ldBH | ldBL | ldBA
  | ldCB | ldCC | ldCD | ldCE | ldCH | ldCL | ldCA | ldDB | ldDC | ldDD | ldDE | ldDH | ldDL | ldDA | ldEB | ldEC
  | ldED | ldEE | ldEH | ldEL | ldEA | ldHB | ldHC | ldHD | ldHE | ldHH | ldHL | ldHA | ldLB | ldLC | ldLD | ldLE
  | ldLH | ldLL | ldLA | ldAB | ldAC | ldAD | ldAE | ldAH | ldAL | ldAA | addAB | addAC | addAD | addAE | addAH
  | addAL | addAA | adcAB | adcAC | adcAD | adcAE | adcAH | adcAL | adcAA | subB | subC | subD | subE | subH | subL
  | subA | sbcAB | sbcAC | sbcAD | sbcAE | sbcAH | sbcAL | sbcAA | andB | andC | andD | andE | andH | andL | andA
  | xorB | xorC | xorD | xorE | xorH | xorL | xorA | orB | orC | orD | orE | orH | orL | orA | cpB | cpC | cpD
  | cpE | cpH | cpL | cpA | addAImm _ | adcAImm _ | undefD3 | subImm _ | undefDB | undefDD | sbcAImm _
  | undefE3 | undefE4 | andImm _ | jpHL | undefEB | undefEC | undefED | xorImm _ | di | undefF4
  | orImm _ | ei | undefFC | undefFD | cpImm _ => exact completes_at_once nofun rfl rfl rfl
  | incBC | decBC | incDE | decDE | incHL | decHL | incSP | decSP =>
    exact completes_after 4 nofun rfl (addPair_cc _ _ s) rfl
  | addHLBC | addHLDE | addHLHL | addHLSP => exact completes_after 4 nofun rfl rfl rfl
  | jr _ | jp _ => exact completes_after 4 nofun rfl (jump_cc _ s) rfl
  | ldSPHL => exact completes_after 4 nofun rfl (State.tick_cc _) rfl
  | ldHLSPImm _ => exact completes_after 4 nofun rfl (spPlus_cc _ s) rfl
  | addSPImm _ => exact completes_after 8 nofun rfl (addSp_cc _ s) rfl
  | ldAIndBC | ldAIndDE | ldAIndHLInc | ldAIndHLDec | ldBIndHL | ldCIndHL | ldDIndHL | ldEIndHL | ldHIndHL
  | ldLIndHL | ldAIndHL | addAIndHL | adcAIndHL | subIndHL | sbcAIndHL | andIndHL | xorIndHL | orIndHL | cpIndHL
  | ldhAIndA8 _ | ldhAIndC | ldAIndA16 _ => exact completes_after 4 nofun rfl (memRead_cc _ s) rfl
  | ldIndBCA | ldIndDEA | ldIndHLIncA | ldIndHLDecA | ldIndHLImm _ | ldIndHLB | ldIndHLC | ldIndHLD | ldIndHLE
  | ldIndHLH | ldIndHLL | ldIndHLA | ldhIndA8A _ | ldhIndCA | ldIndA16A _ =>
    exact completes_after 4 nofun rfl (memWrite_cc _ _ s) rfl
  | incIndHL | decIndHL => exact completes_after 8 nofun rfl (memWrite_memRead_cc _ _ s) rfl
  | ldIndA16SP _ => exact completes_after 8 nofun rfl (storeSp_cc _ s) rfl
  | pushBC | rst00 | call _ | rst08 | pushDE | rst10 | rst18 | pushHL | rst20 | rst28 | pushAF | rst30 | rst38 =>
    exact completes_after 12 nofun rfl (tick_push16_cc _ s) rfl
  | popBC | popDE | popHL | popAF => exact completes_after 8 nofun rfl (pop16_cc s) rfl
  | ret | reti => exact completes_after 12 nofun rfl (returnTo_cc s) rfl
  | jpNZ _ | jpZ _ | jpNC _ | jpC _ =>
    exact completes_if 4 0 nofun rfl (jump_cc _ s) (Int.add_zero _).symm rfl rfl
  | jrNZ _ | jrZ _ | jrNC _ | jrC _ =>
    exact completes_if 4 0 nofun rfl (jump_cc _ s) (Int.add_zero _).symm rfl rfl
  | callNZ _ | callZ _ | callNC _ | callC _ =>
    exact completes_if 12 0 nofun rfl (callTo_cc _ s) (Int.add_zero _).symm rfl rfl
  | retNZ | retZ | retNC | retC => exact completes_if 16 4 nofun rfl (tick_returnTo_cc s) (State.tick_cc s) rfl rfl
  | rlc r | rrc r | rl r | rr r | sla r | sra r | swap r | srl r =>
    exact completes_after _ nofun rfl (rotate_cc r s _) (access_twice r)
  | bit0 r | bit1 r | bit2 r | bit3 r | bit4 r | bit5 r | bit6 r | bit7 r =>
    exact completes_after _ nofun rfl (testBit_cc r s _) (access_once r)
  | res0 r | res1 r | res2 r | res3 r | res4 r | res5 r | res6 r | res7 r | set0 r | set1 r | set2 r | set3 r
  | set4 r | set5 r | set6 r | set7 r => exact completes_after _ nofun rfl (changeBit_cc r s _) (access_twice r)
  | halt => exact completes_at_once nofun rfl (halt_cc s) rfl
  | stop =>
    refine ⟨s.stop, rfl, ?_⟩
    rw [stop_cc, Int.sub_self]
    rfl
  | prefixCb => cases hwf

end Sys2Proof.Machine
end

section
/-! SUPPORT. A reset: the record `RESET` and what the host's reset does with it (70_reset_and_hazards.md R550, R551,
62_mbc.md R480, 63_rtc.md R509). -/

namespace Sys2Proof.Machine

open Sys2Proof.Family

/-- Settles O44: every slot is disabled and no interrupt is enabled, so recomputing the two slots changes nothing. -/
theorem resetMeetsTheInvariant : Obligations.ResetMeetsTheInvariant := by
  have hslots : State.reset.timaReschedule.intRecompute = State.reset := by decide
  have hkeeps : State.reset.timaReschedule.intRecompute.Keeps true :=
    keeps_atReset Params.suggested (some Cart.plain32K) Mems.empty RtcContents.zero 0 External.none (by decide) (by decide)
      (by rintro c ⟨⟩; decide)
  exact (State.keeps_iff_inv _).mp (hslots ▸ hkeeps)

/-! ### The suggested record -/

theorem suggested_common (m : Model) (k : Word) :
    let x := ResetRecord.suggested m k
    x.cc = 0 && x.cpu.sp = 0xFFFE && x.cpu.pc = 0x0100 && !x.cpu.ime && x.cpu.minIntTime = 0 && !x.cpu.halted &&
      !x.cpu.stopped && x.cpu.stopStart = 0 && !x.cpu.prefetched && x.cpu.latch = 0x00 && !x.cpu.doubleSpeed &&
      x.io.ifr = 0x01 && x.io.ie = 0x00 && !x.io.prepare && x.io.vbk = 0 && x.io.svbk = 0 &&
      x.tima = 0 && x.tma = 0 && x.tac = 0 && x.busValue = 0xFF && !x.mapper.ramEnable && x.mapper.romBankReg = 1 &&
      x.mapper.ramBankReg = 0 && x.mapper.bank2 = 0 && !x.mapper.mode && x.mapper.latchPrev = 0xFF &&
      x.rtc = RtcContents.zero && x.divCounter = k := by
  cases m <;> exact (Bool.and_eq_true _ _).mpr ⟨rfl, decide_eq_true rfl⟩

/-! ### The host's reset -/

section
variable (sidecar : Option RtcContents) (s : State)

/-- The machine the devices are told of. -/
def State.resetBase : State :=
  State.intRecompute <| State.timaReschedule <|
    State.atReset s.params s.cart s.mem (sidecar.getD s.params.reset.rtc) s.hostTime.1 s.hostTime.2.ext

theorem hostReset_eq : s.hostReset sidecar =
    ((s.resetBase sidecar).callExt false (.resetDone s.params.reset.cc)).2 := rfl

theorem resetBase_answers : (s.resetBase sidecar).ext.answers = s.ext.answers := by
  show s.hostTime.2.ext.answers = _
  rw [hostTime_eq]

end

/-- The bus is decayed once the pull-up delay has passed. -/
theorem openBus_of_decayed {s : State} (h : s.bus.time + s.params.pullupDelay ≤ s.cc) : s.openBus = 0xFF := by
  refine if_neg ?_
  omega

/-- A call of the devices keeps INTERRUPTS a function of the state (60_exceptions.md R345). -/
theorem callExt_settled (ev : ExtEvent) {s : State} (h : s.sched.interrupts = s.interruptDeadline) : ∃ irq d e,
    (s.callExt false ev).2 = { s with io := { s.io with ifr := s.io.ifr ||| irq }, sched := d, ext := e } ∧
    d.unhalt = s.sched.unhalt ∧ d.endRun = s.sched.endRun ∧ d.oamDma = s.sched.oamDma ∧ d.tima = s.sched.tima ∧
    d.interrupts = (s.callExt false ev).2.interruptDeadline := by
  have hzero : s.io.ifr ||| 0 = s.io.ifr := BitVec.or_zero
  have hdoes := callExt_handlerDoes false ev s
  unfold handlerDoes at hdoes
  generalize (s.callExt false ev).2 = t at hdoes ⊢
  split at hdoes
  · refine ⟨0, s.sched, { s.ext with log := ev :: s.ext.log }, ?_, rfl, rfl, rfl, rfl, ?_⟩
    · rw [hzero]
      exact hdoes
    · rw [hdoes]
      exact h
  · obtain ⟨hform, hvram, -⟩ := hdoes
    rw [hvram rfl] at hform
    refine ⟨_, _, _, hform, rfl, rfl, rfl, rfl, ?_⟩
    split_ifs with hirq
    · rw [hirq, hzero] at hform
      rw [h, hform]
      rfl
    · rfl

/-- What the devices, called at the end, leave of a reset. -/
theorem hostReset_form (sidecar : Option RtcContents) (s : State) : ∃ irq d e,
    s.hostReset sidecar = { s.resetBase sidecar with
      io := { s.params.reset.io with ifr := s.params.reset.io.ifr ||| irq }, sched := d, ext := e } ∧
    d.unhalt = none ∧ d.endRun = none ∧ d.oamDma = none ∧ d.tima = (s.resetBase sidecar).timaDeadline ∧
    d.interrupts = (s.hostReset sidecar).interruptDeadline :=
  callExt_settled (.resetDone s.params.reset.cc) (s := s.resetBase sidecar) rfl

/-- With no device a reset leaves the ports and the devices' slots as `RESET` and the disabled scheduler give them. -/
theorem hostReset_no_device (sidecar : Option RtcContents) {s : State} (h : s.ext.answers = []) :
    s.hostReset sidecar = (s.resetBase sidecar).logEvent (.resetDone s.params.reset.cc) := by
  rw [hostReset_eq, State.callExt_nil ((resetBase_answers sidecar s).trans h)]

/-- Settles O45: a reset is the record's state with two slots recomputed and the devices called; the suggested records are
computed. -/
theorem resetLeavesTheListedValues : Obligations.ResetLeavesTheListedValues := by
  intro p c mem regs q ext k sidecar s u g h r w t
  have hdecayed : ∀ v : State, v.bus.time = v.cc - v.params.pullupDelay → v.openBus = 0xFF :=
    fun v hv => openBus_of_decayed (by omega)
  refine ⟨⟨rfl, rfl, rfl, rfl, rfl, rfl, rfl, rfl, hdecayed u rfl, ?_, rfl, rfl, rfl, rfl, rfl⟩, ?_,
    ⟨rfl, rfl, rfl, rfl, rfl, rfl, rfl, rfl, rfl⟩, ⟨rfl, rfl, rfl, rfl, rfl, rfl, rfl, rfl, rfl⟩, rfl, ?_, ?_⟩
  · intro sl
    cases sl <;> rfl
  · refine List.all_eq_true.mpr fun x hx => ?_
    obtain rfl | rfl := List.mem_pair.mp hx
    · exact suggested_common .dmg k
    · exact suggested_common .cgb k
  · obtain ⟨irq, d, e, ht, hunhalt, hend, hoam, htima, hint⟩ := hostReset_form sidecar s
    have ht' : t = _ := ht
    have hint' : d.interrupts = t.interruptDeadline := hint
    rw [ht'] at hint' ⊢
    exact ⟨rfl, rfl, rfl, rfl, rfl, rfl, rfl, rfl, hdecayed _ rfl, rfl, ⟨irq, rfl⟩, rfl, rfl, rfl, rfl, rfl, htima,
      hint', hunhalt, hend, hoam, rfl, rfl, rfl, rfl, rfl, rfl, rfl, rfl⟩
  · intro hnone
    have ht : t = _ := hostReset_no_device sidecar hnone
    rw [ht]
    exact ⟨rfl, rfl, rfl, rfl, rfl⟩

end Sys2Proof.Machine
end
